-- ==== Sys2Proof/Word.lean ====
section
/-! DEFINITION. The bit, the bit string and the 16-bit window: the only word types of the machine
(spec/00_scope.md R10, spec/20_memory.md R61). The bit-string helpers are in Decode.lean. -/

namespace Sys2Proof

/-- One stream bit (R10: `S[i]` is 0 or 1). -/
abbrev Bit := Bool

/-- A bit string, first stream bit first (R10). -/
abbrev Bits := List Bit

/-- What `peek_bits` returns: a 16-bit value (R61). -/
abbrev Window := BitVec 16

/-- A byte of the container's buffer, before FILL_ORDER maps it to stream bits (R66). -/
abbrev Byte := BitVec 8

end Sys2Proof
end

