-- ==== Sys2Proof/Config.lean ====
section
/-! DEFINITION. What an implementation fixes (spec/00_scope.md R8) and the free values. -/

namespace Sys2Proof

/-- FILL_ORDER: which bit of byte k is `S[8k]` (R66). `msbFirst` is the spec's default.
`lsbFirst` is the other order the parameter can name (PRESUMED: TIFF FillOrder 2, log 15). -/
inductive FillOrder where
  | msbFirst
  | lsbFirst
  deriving DecidableEq, Repr

/-- The parameters the spec leaves open, "which a model takes as arguments" (R8). A machine's
parameters stand in its state and no step changes them, so a statement about every state is a
statement about every implementation (log 1). -/
structure Params where
  /-- P_MAX_WIDTH: the largest image width accepted. -/
  maxWidth : Nat
  /-- P_CUR_BITS: the width of the cursor registers. -/
  curBits : Nat
  /-- P_MAX_RUNS: the capacity of the reference-line and output run buffers. -/
  maxRuns : Nat
  /-- P_ACC_BITS: the width of the run accumulator and position registers. -/
  accBits : Nat
  /-- FILL_ORDER: how the host maps bytes to stream bits; outside the engine. -/
  fillOrder : FillOrder
  deriving DecidableEq, Repr

/-- R8: P_MAX_WIDTH is at least 1. -/
abbrev Params.Ok (p : Params) : Prop := 1 ≤ p.maxWidth

/-- DESIGN CHOICE (log 1): the parameters of the reset state. FILL_ORDER is the spec's default;
the numbers are one implementation's. -/
def Config.resetParams : Params :=
  { maxWidth := 65535, curBits := 32, maxRuns := 65536, accBits := 32, fillOrder := .msbFirst }

/-- FREE VALUE (log 6): what a host read returns where the spec says `any value`
(spec/93_implementation_defined.md A13, A14), taken at the state's `freeIndex`. -/
opaque Config.freeRead : Nat → Nat

/-- FREE VALUE (log 7): what a `Group3_1D` START latches into REF from an IN_REF cell that was
never written since reset: taken at the state's `freeIndex` and the cell's index. -/
opaque Config.freeCell : Nat → Nat → Nat

end Sys2Proof
end

