-- ==== Sys2Proof/Syntax.lean ====
section
/-! DEFINITION. The instructions: one constructor for each code word of spec/opcode_table.json, named as
its mnemonic in lower case (spec/30_encoding.md R90, R101). A code word carries no operand field (R98). -/

namespace Sys2Proof

/-- The two symbolic colours (R11). -/
inductive Color where
  | white
  | black
  deriving DecidableEq, Repr

/-- `¬White = Black` and `¬Black = White` (R11). -/
def Color.flip : Color → Color
  | .white => .black
  | .black => .white

/-- The three code sets (R90). -/
inductive Table where
  | white
  | black
  | mode
  deriving DecidableEq, Repr

/-- The run table of a colour (R140). -/
def Table.ofColor : Color → Table
  | .white => .white
  | .black => .black

/-- The classes of R91 (the opcode table's "format" column). -/
inductive Format where
  | runTerm
  | runMakeup
  | runXMakeup
  | eol
  | mode
  deriving DecidableEq, Repr

/-- The code words (R101: 105 white, 105 black, 11 mode). -/
inductive Instr where
  -- white terminating codes, R141
  | wt0 | wt1 | wt2 | wt3 | wt4 | wt5 | wt6 | wt7 | wt8 | wt9 | wt10 | wt11 | wt12 | wt13
  | wt14 | wt15 | wt16 | wt17 | wt18 | wt19 | wt20 | wt21 | wt22 | wt23 | wt24 | wt25 | wt26
  | wt27 | wt28 | wt29 | wt30 | wt31 | wt32 | wt33 | wt34 | wt35 | wt36 | wt37 | wt38 | wt39
  | wt40 | wt41 | wt42 | wt43 | wt44 | wt45 | wt46 | wt47 | wt48 | wt49 | wt50 | wt51 | wt52
  | wt53 | wt54 | wt55 | wt56 | wt57 | wt58 | wt59 | wt60 | wt61 | wt62 | wt63
  -- white makeup codes, R142
  | wm64 | wm128 | wm192 | wm256 | wm320 | wm384 | wm448 | wm512 | wm576 | wm640 | wm704
  | wm768 | wm832 | wm896 | wm960 | wm1024 | wm1088 | wm1152 | wm1216 | wm1280 | wm1344
  | wm1408 | wm1472 | wm1536 | wm1600 | wm1664 | wm1728
  -- extended makeup codes in the white table, R143
  | wx1792 | wx1856 | wx1920 | wx1984 | wx2048 | wx2112 | wx2176 | wx2240 | wx2304 | wx2368
  | wx2432 | wx2496 | wx2560
  -- EOL in the white table, R144
  | weol
  -- black terminating codes, R145
  | bt0 | bt1 | bt2 | bt3 | bt4 | bt5 | bt6 | bt7 | bt8 | bt9 | bt10 | bt11 | bt12 | bt13
  | bt14 | bt15 | bt16 | bt17 | bt18 | bt19 | bt20 | bt21 | bt22 | bt23 | bt24 | bt25 | bt26
  | bt27 | bt28 | bt29 | bt30 | bt31 | bt32 | bt33 | bt34 | bt35 | bt36 | bt37 | bt38 | bt39
  | bt40 | bt41 | bt42 | bt43 | bt44 | bt45 | bt46 | bt47 | bt48 | bt49 | bt50 | bt51 | bt52
  | bt53 | bt54 | bt55 | bt56 | bt57 | bt58 | bt59 | bt60 | bt61 | bt62 | bt63
  -- black makeup codes, R146
  | bm64 | bm128 | bm192 | bm256 | bm320 | bm384 | bm448 | bm512 | bm576 | bm640 | bm704
  | bm768 | bm832 | bm896 | bm960 | bm1024 | bm1088 | bm1152 | bm1216 | bm1280 | bm1344
  | bm1408 | bm1472 | bm1536 | bm1600 | bm1664 | bm1728
  -- extended makeup codes in the black table, R147
  | bx1792 | bx1856 | bx1920 | bx1984 | bx2048 | bx2112 | bx2176 | bx2240 | bx2304 | bx2368
  | bx2432 | bx2496 | bx2560
  -- EOL in the black table, R148
  | beol
  -- mode codes, R175 to R185
  | p | h | v0 | vr1 | vr2 | vr3 | vl1 | vl2 | vl3 | ext | eol
  deriving DecidableEq, Repr

/-- The table a code word belongs to: the opcode table's "table" column (R101). -/
def Instr.table : Instr → Table
  | .wt0 | .wt1 | .wt2 | .wt3 | .wt4 | .wt5 | .wt6 | .wt7 | .wt8 | .wt9 | .wt10 | .wt11 | .wt12
  | .wt13 | .wt14 | .wt15 | .wt16 | .wt17 | .wt18 | .wt19 | .wt20 | .wt21 | .wt22 | .wt23
  | .wt24 | .wt25 | .wt26 | .wt27 | .wt28 | .wt29 | .wt30 | .wt31 | .wt32 | .wt33 | .wt34
  | .wt35 | .wt36 | .wt37 | .wt38 | .wt39 | .wt40 | .wt41 | .wt42 | .wt43 | .wt44 | .wt45
  | .wt46 | .wt47 | .wt48 | .wt49 | .wt50 | .wt51 | .wt52 | .wt53 | .wt54 | .wt55 | .wt56
  | .wt57 | .wt58 | .wt59 | .wt60 | .wt61 | .wt62 | .wt63 | .wm64 | .wm128 | .wm192 | .wm256
  | .wm320 | .wm384 | .wm448 | .wm512 | .wm576 | .wm640 | .wm704 | .wm768 | .wm832 | .wm896
  | .wm960 | .wm1024 | .wm1088 | .wm1152 | .wm1216 | .wm1280 | .wm1344 | .wm1408 | .wm1472
  | .wm1536 | .wm1600 | .wm1664 | .wm1728 | .wx1792 | .wx1856 | .wx1920 | .wx1984 | .wx2048
  | .wx2112 | .wx2176 | .wx2240 | .wx2304 | .wx2368 | .wx2432 | .wx2496 | .wx2560 | .weol =>
    .white
  | .bt0 | .bt1 | .bt2 | .bt3 | .bt4 | .bt5 | .bt6 | .bt7 | .bt8 | .bt9 | .bt10 | .bt11 | .bt12
  | .bt13 | .bt14 | .bt15 | .bt16 | .bt17 | .bt18 | .bt19 | .bt20 | .bt21 | .bt22 | .bt23
  | .bt24 | .bt25 | .bt26 | .bt27 | .bt28 | .bt29 | .bt30 | .bt31 | .bt32 | .bt33 | .bt34
  | .bt35 | .bt36 | .bt37 | .bt38 | .bt39 | .bt40 | .bt41 | .bt42 | .bt43 | .bt44 | .bt45
  | .bt46 | .bt47 | .bt48 | .bt49 | .bt50 | .bt51 | .bt52 | .bt53 | .bt54 | .bt55 | .bt56
  | .bt57 | .bt58 | .bt59 | .bt60 | .bt61 | .bt62 | .bt63 | .bm64 | .bm128 | .bm192 | .bm256
  | .bm320 | .bm384 | .bm448 | .bm512 | .bm576 | .bm640 | .bm704 | .bm768 | .bm832 | .bm896
  | .bm960 | .bm1024 | .bm1088 | .bm1152 | .bm1216 | .bm1280 | .bm1344 | .bm1408 | .bm1472
  | .bm1536 | .bm1600 | .bm1664 | .bm1728 | .bx1792 | .bx1856 | .bx1920 | .bx1984 | .bx2048
  | .bx2112 | .bx2176 | .bx2240 | .bx2304 | .bx2368 | .bx2432 | .bx2496 | .bx2560 | .beol =>
    .black
  | .p | .h | .v0 | .vr1 | .vr2 | .vr3 | .vl1 | .vl2 | .vl3 | .ext | .eol =>
    .mode

/-- The class of a code word: the opcode table's "format" column (R91). -/
def Instr.format : Instr → Format
  | .wt0 | .wt1 | .wt2 | .wt3 | .wt4 | .wt5 | .wt6 | .wt7 | .wt8 | .wt9 | .wt10 | .wt11 | .wt12
  | .wt13 | .wt14 | .wt15 | .wt16 | .wt17 | .wt18 | .wt19 | .wt20 | .wt21 | .wt22 | .wt23
  | .wt24 | .wt25 | .wt26 | .wt27 | .wt28 | .wt29 | .wt30 | .wt31 | .wt32 | .wt33 | .wt34
  | .wt35 | .wt36 | .wt37 | .wt38 | .wt39 | .wt40 | .wt41 | .wt42 | .wt43 | .wt44 | .wt45
  | .wt46 | .wt47 | .wt48 | .wt49 | .wt50 | .wt51 | .wt52 | .wt53 | .wt54 | .wt55 | .wt56
  | .wt57 | .wt58 | .wt59 | .wt60 | .wt61 | .wt62 | .wt63 | .bt0 | .bt1 | .bt2 | .bt3 | .bt4
  | .bt5 | .bt6 | .bt7 | .bt8 | .bt9 | .bt10 | .bt11 | .bt12 | .bt13 | .bt14 | .bt15 | .bt16
  | .bt17 | .bt18 | .bt19 | .bt20 | .bt21 | .bt22 | .bt23 | .bt24 | .bt25 | .bt26 | .bt27
  | .bt28 | .bt29 | .bt30 | .bt31 | .bt32 | .bt33 | .bt34 | .bt35 | .bt36 | .bt37 | .bt38
  | .bt39 | .bt40 | .bt41 | .bt42 | .bt43 | .bt44 | .bt45 | .bt46 | .bt47 | .bt48 | .bt49
  | .bt50 | .bt51 | .bt52 | .bt53 | .bt54 | .bt55 | .bt56 | .bt57 | .bt58 | .bt59 | .bt60
  | .bt61 | .bt62 | .bt63 =>
    .runTerm
  | .wm64 | .wm128 | .wm192 | .wm256 | .wm320 | .wm384 | .wm448 | .wm512 | .wm576 | .wm640
  | .wm704 | .wm768 | .wm832 | .wm896 | .wm960 | .wm1024 | .wm1088 | .wm1152 | .wm1216
  | .wm1280 | .wm1344 | .wm1408 | .wm1472 | .wm1536 | .wm1600 | .wm1664 | .wm1728 | .bm64
  | .bm128 | .bm192 | .bm256 | .bm320 | .bm384 | .bm448 | .bm512 | .bm576 | .bm640 | .bm704
  | .bm768 | .bm832 | .bm896 | .bm960 | .bm1024 | .bm1088 | .bm1152 | .bm1216 | .bm1280
  | .bm1344 | .bm1408 | .bm1472 | .bm1536 | .bm1600 | .bm1664 | .bm1728 =>
    .runMakeup
  | .wx1792 | .wx1856 | .wx1920 | .wx1984 | .wx2048 | .wx2112 | .wx2176 | .wx2240 | .wx2304
  | .wx2368 | .wx2432 | .wx2496 | .wx2560 | .bx1792 | .bx1856 | .bx1920 | .bx1984 | .bx2048
  | .bx2112 | .bx2176 | .bx2240 | .bx2304 | .bx2368 | .bx2432 | .bx2496 | .bx2560 =>
    .runXMakeup
  | .weol | .beol | .eol =>
    .eol
  | .p | .h | .v0 | .vr1 | .vr2 | .vr3 | .vl1 | .vl2 | .vl3 | .ext =>
    .mode

end Sys2Proof
end

