-- ==== Sys2Proof/WellFormed.lean ====
section
/-! DEFINITION. Well-formedness: a code word belongs to one table, and a code-word program of one
command has the colour and the class each phase expects (spec/30_encoding.md R90, R102). -/

namespace Sys2Proof

/-- A code word is an instruction only in its own table (R90). -/
abbrev Instr.WfIn (t : Table) (i : Instr) : Prop := i.table = t

/-- What an assembler expects next; the colour is the colour of a0 (of the run, in 1D). It follows
PHASE and COLOR as far as the mnemonics alone determine them (R102). -/
inductive Expect where
  | run1D (c : Color)
  | mode2D (c : Color)
  | hrun1 (c : Color)
  | hrun2 (c : Color)
  | ended
  deriving DecidableEq, Repr

/-- What the assembler expects after a run code of colour `c`: `onTerm` after a terminating code,
the same thing again after a makeup code, nothing more after EOL. -/
def Expect.afterRun (c : Color) (again onTerm : Expect) (i : Instr) : Option Expect :=
  if i.table = Table.ofColor c then
    match i.format with
    | .runTerm => some onTerm
    | .runMakeup => some again
    | .runXMakeup => some again
    | .eol => some .ended
    | .mode => none
  else none

/-- What the assembler expects after a mode code. -/
def Expect.afterMode (c : Color) (i : Instr) : Option Expect :=
  if i.table = .mode then
    match i with
    | .p => some (.mode2D c)
    | .h => some (.hrun1 c)
    | .ext => some .ended
    | .eol => some .ended
    | .v0 => some (.mode2D c.flip)
    | .vr1 => some (.mode2D c.flip)
    | .vr2 => some (.mode2D c.flip)
    | .vr3 => some (.mode2D c.flip)
    | .vl1 => some (.mode2D c.flip)
    | .vl2 => some (.mode2D c.flip)
    | .vl3 => some (.mode2D c.flip)
    | _ => none
  else none

/-- One mnemonic of a program, or the refusal of it (R102: "an assembler rejects a run mnemonic of
the wrong color for the phase it stands in").
DESIGN CHOICE (log 29): a mnemonic of another table than the phase expects (the mode EOL where a run code is
expected), and any mnemonic after EOL or EXT, is rejected too. -/
def Expect.next (e : Expect) (i : Instr) : Option Expect :=
  match e with
  | .run1D c => Expect.afterRun c (.run1D c) (.run1D c.flip) i
  | .mode2D c => Expect.afterMode c i
  | .hrun1 c => Expect.afterRun c (.hrun1 c) (.hrun2 c) i
  | .hrun2 c => Expect.afterRun c.flip (.hrun2 c) (.mode2D c) i
  | .ended => none

/-- The whole program of one command. -/
def Expect.run : Expect → List Instr → Option Expect
  | e, [] => some e
  | e, i :: rest =>
    match e.next i with
    | some e' => Expect.run e' rest
    | none => none

/-- Every line starts with a White run (R201): a 1D command expects a white run code, a 2D command a
mode code with a0 White. -/
def Expect.start (twoD : Bool) : Expect := if twoD then .mode2D .white else .run1D .white

/-- A program of one command that this check accepts. DESIGN CHOICE (log 29): it is stricter than R102's
assembler, and text for several commands (`parseProgram`) is not held to it. -/
def programWf (twoD : Bool) (p : List Instr) : Bool := ((Expect.start twoD).run p).isSome

end Sys2Proof
end

