-- ==== Sys2Proof/Decode.lean ====
section
/-! DEFINITION. The code tables, the decoder and the encoder (spec/30_encoding.md R90 to R101,
spec/40_table_walk.md R120 to R122, R127). The decoder reads the table rows; the encoder below it is a
second transcription of the spec's tables, one line a code word. -/

namespace Sys2Proof

/-- The low `n` bits of `v` as a bit string, most significant first (R10, R61). -/
def toBits : Nat → Nat → Bits
  | 0, _ => []
  | n + 1, v => v.testBit n :: toBits n v

/-- The number a bit string denotes, first bit most significant (R10). -/
def ofBits (b : Bits) : Nat := b.foldl (fun acc x => 2 * acc + x.toNat) 0

/-- FILL_ORDER: the eight stream bits of one byte (R66). -/
def byteBits : FillOrder → Byte → Bits
  | .msbFirst, b => toBits 8 b.toNat
  | .lsbFirst, b => (toBits 8 b.toNat).reverse

/-- One row of a code table: the code word of `width` bits, written as the binary number `bits`, and the
`run_value` its ROM entry holds (R101, R109, R110). -/
structure CodeRow where
  instr : Instr
  width : Nat
  bits : Nat
  value : Nat
  deriving DecidableEq, Repr

/-- The row's code word, first stream bit first. -/
def CodeRow.word (r : CodeRow) : Bits := toBits r.width r.bits

/-- R110: the run value of EOL in a run table, neither a terminating nor a makeup value. -/
def eolMark : Nat := 4095

/-- White terminating codes, R141 (table rows). -/
def whiteTermRows0 : List CodeRow := [
  ⟨.wt0, 8, 0b00110101, 0⟩, ⟨.wt1, 6, 0b000111, 1⟩, ⟨.wt2, 4, 0b0111, 2⟩, ⟨.wt3, 4, 0b1000, 3⟩,
  ⟨.wt4, 4, 0b1011, 4⟩, ⟨.wt5, 4, 0b1100, 5⟩, ⟨.wt6, 4, 0b1110, 6⟩, ⟨.wt7, 4, 0b1111, 7⟩,
  ⟨.wt8, 5, 0b10011, 8⟩, ⟨.wt9, 5, 0b10100, 9⟩, ⟨.wt10, 5, 0b00111, 10⟩,
  ⟨.wt11, 5, 0b01000, 11⟩, ⟨.wt12, 6, 0b001000, 12⟩, ⟨.wt13, 6, 0b000011, 13⟩,
  ⟨.wt14, 6, 0b110100, 14⟩, ⟨.wt15, 6, 0b110101, 15⟩]

/-- White terminating codes, R141 (table rows). -/
def whiteTermRows1 : List CodeRow := [
  ⟨.wt16, 6, 0b101010, 16⟩, ⟨.wt17, 6, 0b101011, 17⟩, ⟨.wt18, 7, 0b0100111, 18⟩,
  ⟨.wt19, 7, 0b0001100, 19⟩, ⟨.wt20, 7, 0b0001000, 20⟩, ⟨.wt21, 7, 0b0010111, 21⟩,
  ⟨.wt22, 7, 0b0000011, 22⟩, ⟨.wt23, 7, 0b0000100, 23⟩, ⟨.wt24, 7, 0b0101000, 24⟩,
  ⟨.wt25, 7, 0b0101011, 25⟩, ⟨.wt26, 7, 0b0010011, 26⟩, ⟨.wt27, 7, 0b0100100, 27⟩,
  ⟨.wt28, 7, 0b0011000, 28⟩, ⟨.wt29, 8, 0b00000010, 29⟩, ⟨.wt30, 8, 0b00000011, 30⟩,
  ⟨.wt31, 8, 0b00011010, 31⟩]

/-- White terminating codes, R141 (table rows). -/
def whiteTermRows2 : List CodeRow := [
  ⟨.wt32, 8, 0b00011011, 32⟩, ⟨.wt33, 8, 0b00010010, 33⟩, ⟨.wt34, 8, 0b00010011, 34⟩,
  ⟨.wt35, 8, 0b00010100, 35⟩, ⟨.wt36, 8, 0b00010101, 36⟩, ⟨.wt37, 8, 0b00010110, 37⟩,
  ⟨.wt38, 8, 0b00010111, 38⟩, ⟨.wt39, 8, 0b00101000, 39⟩, ⟨.wt40, 8, 0b00101001, 40⟩,
  ⟨.wt41, 8, 0b00101010, 41⟩, ⟨.wt42, 8, 0b00101011, 42⟩, ⟨.wt43, 8, 0b00101100, 43⟩,
  ⟨.wt44, 8, 0b00101101, 44⟩, ⟨.wt45, 8, 0b00000100, 45⟩, ⟨.wt46, 8, 0b00000101, 46⟩,
  ⟨.wt47, 8, 0b00001010, 47⟩]

/-- White terminating codes, R141 (table rows). -/
def whiteTermRows3 : List CodeRow := [
  ⟨.wt48, 8, 0b00001011, 48⟩, ⟨.wt49, 8, 0b01010010, 49⟩, ⟨.wt50, 8, 0b01010011, 50⟩,
  ⟨.wt51, 8, 0b01010100, 51⟩, ⟨.wt52, 8, 0b01010101, 52⟩, ⟨.wt53, 8, 0b00100100, 53⟩,
  ⟨.wt54, 8, 0b00100101, 54⟩, ⟨.wt55, 8, 0b01011000, 55⟩, ⟨.wt56, 8, 0b01011001, 56⟩,
  ⟨.wt57, 8, 0b01011010, 57⟩, ⟨.wt58, 8, 0b01011011, 58⟩, ⟨.wt59, 8, 0b01001010, 59⟩,
  ⟨.wt60, 8, 0b01001011, 60⟩, ⟨.wt61, 8, 0b00110010, 61⟩, ⟨.wt62, 8, 0b00110011, 62⟩,
  ⟨.wt63, 8, 0b00110100, 63⟩]

/-- White makeup codes, R142 (table rows). -/
def whiteMakeupRows0 : List CodeRow := [
  ⟨.wm64, 5, 0b11011, 64⟩, ⟨.wm128, 5, 0b10010, 128⟩, ⟨.wm192, 6, 0b010111, 192⟩,
  ⟨.wm256, 7, 0b0110111, 256⟩, ⟨.wm320, 8, 0b00110110, 320⟩, ⟨.wm384, 8, 0b00110111, 384⟩,
  ⟨.wm448, 8, 0b01100100, 448⟩, ⟨.wm512, 8, 0b01100101, 512⟩, ⟨.wm576, 8, 0b01101000, 576⟩,
  ⟨.wm640, 8, 0b01100111, 640⟩, ⟨.wm704, 9, 0b011001100, 704⟩, ⟨.wm768, 9, 0b011001101, 768⟩,
  ⟨.wm832, 9, 0b011010010, 832⟩, ⟨.wm896, 9, 0b011010011, 896⟩, ⟨.wm960, 9, 0b011010100, 960⟩,
  ⟨.wm1024, 9, 0b011010101, 1024⟩]

/-- White makeup codes, R142 (table rows). -/
def whiteMakeupRows1 : List CodeRow := [
  ⟨.wm1088, 9, 0b011010110, 1088⟩, ⟨.wm1152, 9, 0b011010111, 1152⟩,
  ⟨.wm1216, 9, 0b011011000, 1216⟩, ⟨.wm1280, 9, 0b011011001, 1280⟩,
  ⟨.wm1344, 9, 0b011011010, 1344⟩, ⟨.wm1408, 9, 0b011011011, 1408⟩,
  ⟨.wm1472, 9, 0b010011000, 1472⟩, ⟨.wm1536, 9, 0b010011001, 1536⟩,
  ⟨.wm1600, 9, 0b010011010, 1600⟩, ⟨.wm1664, 6, 0b011000, 1664⟩, ⟨.wm1728, 9, 0b010011011, 1728⟩]

/-- Extended makeup codes in the white table, R143 (table rows). -/
def whiteExtendedRows : List CodeRow := [
  ⟨.wx1792, 11, 0b00000001000, 1792⟩, ⟨.wx1856, 11, 0b00000001100, 1856⟩,
  ⟨.wx1920, 11, 0b00000001101, 1920⟩, ⟨.wx1984, 12, 0b000000010010, 1984⟩,
  ⟨.wx2048, 12, 0b000000010011, 2048⟩, ⟨.wx2112, 12, 0b000000010100, 2112⟩,
  ⟨.wx2176, 12, 0b000000010101, 2176⟩, ⟨.wx2240, 12, 0b000000010110, 2240⟩,
  ⟨.wx2304, 12, 0b000000010111, 2304⟩, ⟨.wx2368, 12, 0b000000011100, 2368⟩,
  ⟨.wx2432, 12, 0b000000011101, 2432⟩, ⟨.wx2496, 12, 0b000000011110, 2496⟩,
  ⟨.wx2560, 12, 0b000000011111, 2560⟩]

/-- EOL in the white table, R144 (table rows). -/
def whiteEolRows : List CodeRow := [
  ⟨.weol, 12, 0b000000000001, eolMark⟩]

/-- Black terminating codes, R145 (table rows). -/
def blackTermRows0 : List CodeRow := [
  ⟨.bt0, 10, 0b0000110111, 0⟩, ⟨.bt1, 3, 0b010, 1⟩, ⟨.bt2, 2, 0b11, 2⟩, ⟨.bt3, 2, 0b10, 3⟩,
  ⟨.bt4, 3, 0b011, 4⟩, ⟨.bt5, 4, 0b0011, 5⟩, ⟨.bt6, 4, 0b0010, 6⟩, ⟨.bt7, 5, 0b00011, 7⟩,
  ⟨.bt8, 6, 0b000101, 8⟩, ⟨.bt9, 6, 0b000100, 9⟩, ⟨.bt10, 7, 0b0000100, 10⟩,
  ⟨.bt11, 7, 0b0000101, 11⟩, ⟨.bt12, 7, 0b0000111, 12⟩, ⟨.bt13, 8, 0b00000100, 13⟩,
  ⟨.bt14, 8, 0b00000111, 14⟩, ⟨.bt15, 9, 0b000011000, 15⟩]

/-- Black terminating codes, R145 (table rows). -/
def blackTermRows1 : List CodeRow := [
  ⟨.bt16, 10, 0b0000010111, 16⟩, ⟨.bt17, 10, 0b0000011000, 17⟩, ⟨.bt18, 10, 0b0000001000, 18⟩,
  ⟨.bt19, 11, 0b00001100111, 19⟩, ⟨.bt20, 11, 0b00001101000, 20⟩,
  ⟨.bt21, 11, 0b00001101100, 21⟩, ⟨.bt22, 11, 0b00000110111, 22⟩,
  ⟨.bt23, 11, 0b00000101000, 23⟩, ⟨.bt24, 11, 0b00000010111, 24⟩,
  ⟨.bt25, 11, 0b00000011000, 25⟩, ⟨.bt26, 12, 0b000011001010, 26⟩,
  ⟨.bt27, 12, 0b000011001011, 27⟩, ⟨.bt28, 12, 0b000011001100, 28⟩,
  ⟨.bt29, 12, 0b000011001101, 29⟩, ⟨.bt30, 12, 0b000001101000, 30⟩,
  ⟨.bt31, 12, 0b000001101001, 31⟩]

/-- Black terminating codes, R145 (table rows). -/
def blackTermRows2 : List CodeRow := [
  ⟨.bt32, 12, 0b000001101010, 32⟩, ⟨.bt33, 12, 0b000001101011, 33⟩,
  ⟨.bt34, 12, 0b000011010010, 34⟩, ⟨.bt35, 12, 0b000011010011, 35⟩,
  ⟨.bt36, 12, 0b000011010100, 36⟩, ⟨.bt37, 12, 0b000011010101, 37⟩,
  ⟨.bt38, 12, 0b000011010110, 38⟩, ⟨.bt39, 12, 0b000011010111, 39⟩,
  ⟨.bt40, 12, 0b000001101100, 40⟩, ⟨.bt41, 12, 0b000001101101, 41⟩,
  ⟨.bt42, 12, 0b000011011010, 42⟩, ⟨.bt43, 12, 0b000011011011, 43⟩,
  ⟨.bt44, 12, 0b000001010100, 44⟩, ⟨.bt45, 12, 0b000001010101, 45⟩,
  ⟨.bt46, 12, 0b000001010110, 46⟩, ⟨.bt47, 12, 0b000001010111, 47⟩]

/-- Black terminating codes, R145 (table rows). -/
def blackTermRows3 : List CodeRow := [
  ⟨.bt48, 12, 0b000001100100, 48⟩, ⟨.bt49, 12, 0b000001100101, 49⟩,
  ⟨.bt50, 12, 0b000001010010, 50⟩, ⟨.bt51, 12, 0b000001010011, 51⟩,
  ⟨.bt52, 12, 0b000000100100, 52⟩, ⟨.bt53, 12, 0b000000110111, 53⟩,
  ⟨.bt54, 12, 0b000000111000, 54⟩, ⟨.bt55, 12, 0b000000100111, 55⟩,
  ⟨.bt56, 12, 0b000000101000, 56⟩, ⟨.bt57, 12, 0b000001011000, 57⟩,
  ⟨.bt58, 12, 0b000001011001, 58⟩, ⟨.bt59, 12, 0b000000101011, 59⟩,
  ⟨.bt60, 12, 0b000000101100, 60⟩, ⟨.bt61, 12, 0b000001011010, 61⟩,
  ⟨.bt62, 12, 0b000001100110, 62⟩, ⟨.bt63, 12, 0b000001100111, 63⟩]

/-- Black makeup codes, R146 (table rows). -/
def blackMakeupRows0 : List CodeRow := [
  ⟨.bm64, 10, 0b0000001111, 64⟩, ⟨.bm128, 12, 0b000011001000, 128⟩,
  ⟨.bm192, 12, 0b000011001001, 192⟩, ⟨.bm256, 12, 0b000001011011, 256⟩,
  ⟨.bm320, 12, 0b000000110011, 320⟩, ⟨.bm384, 12, 0b000000110100, 384⟩,
  ⟨.bm448, 12, 0b000000110101, 448⟩, ⟨.bm512, 13, 0b0000001101100, 512⟩,
  ⟨.bm576, 13, 0b0000001101101, 576⟩, ⟨.bm640, 13, 0b0000001001010, 640⟩,
  ⟨.bm704, 13, 0b0000001001011, 704⟩, ⟨.bm768, 13, 0b0000001001100, 768⟩,
  ⟨.bm832, 13, 0b0000001001101, 832⟩, ⟨.bm896, 13, 0b0000001110010, 896⟩,
  ⟨.bm960, 13, 0b0000001110011, 960⟩, ⟨.bm1024, 13, 0b0000001110100, 1024⟩]

/-- Black makeup codes, R146 (table rows). -/
def blackMakeupRows1 : List CodeRow := [
  ⟨.bm1088, 13, 0b0000001110101, 1088⟩, ⟨.bm1152, 13, 0b0000001110110, 1152⟩,
  ⟨.bm1216, 13, 0b0000001110111, 1216⟩, ⟨.bm1280, 13, 0b0000001010010, 1280⟩,
  ⟨.bm1344, 13, 0b0000001010011, 1344⟩, ⟨.bm1408, 13, 0b0000001010100, 1408⟩,
  ⟨.bm1472, 13, 0b0000001010101, 1472⟩, ⟨.bm1536, 13, 0b0000001011010, 1536⟩,
  ⟨.bm1600, 13, 0b0000001011011, 1600⟩, ⟨.bm1664, 13, 0b0000001100100, 1664⟩,
  ⟨.bm1728, 13, 0b0000001100101, 1728⟩]

/-- Extended makeup codes in the black table, R147 (table rows). -/
def blackExtendedRows : List CodeRow := [
  ⟨.bx1792, 11, 0b00000001000, 1792⟩, ⟨.bx1856, 11, 0b00000001100, 1856⟩,
  ⟨.bx1920, 11, 0b00000001101, 1920⟩, ⟨.bx1984, 12, 0b000000010010, 1984⟩,
  ⟨.bx2048, 12, 0b000000010011, 2048⟩, ⟨.bx2112, 12, 0b000000010100, 2112⟩,
  ⟨.bx2176, 12, 0b000000010101, 2176⟩, ⟨.bx2240, 12, 0b000000010110, 2240⟩,
  ⟨.bx2304, 12, 0b000000010111, 2304⟩, ⟨.bx2368, 12, 0b000000011100, 2368⟩,
  ⟨.bx2432, 12, 0b000000011101, 2432⟩, ⟨.bx2496, 12, 0b000000011110, 2496⟩,
  ⟨.bx2560, 12, 0b000000011111, 2560⟩]

/-- EOL in the black table, R148 (table rows). -/
def blackEolRows : List CodeRow := [
  ⟨.beol, 12, 0b000000000001, eolMark⟩]

/-- Mode codes, R175 to R185 (table rows). -/
def modeRows : List CodeRow := [
  ⟨.p, 4, 0b0001, 1⟩, ⟨.h, 3, 0b001, 2⟩, ⟨.v0, 1, 0b1, 3⟩, ⟨.vr1, 3, 0b011, 4⟩,
  ⟨.vr2, 6, 0b000011, 5⟩, ⟨.vr3, 7, 0b0000011, 6⟩, ⟨.vl1, 3, 0b010, 7⟩, ⟨.vl2, 6, 0b000010, 8⟩,
  ⟨.vl3, 7, 0b0000010, 9⟩, ⟨.ext, 7, 0b0000001, 10⟩, ⟨.eol, 12, 0b000000000001, 11⟩]

/-- The code set of a table (R127): the white and black columns of R92 to R95, and R96. -/
def codeRows : Table → List CodeRow
  | .white =>
    whiteTermRows0 ++ whiteTermRows1 ++ whiteTermRows2 ++ whiteTermRows3 ++
      whiteMakeupRows0 ++ whiteMakeupRows1 ++ whiteExtendedRows ++ whiteEolRows
  | .black =>
    blackTermRows0 ++ blackTermRows1 ++ blackTermRows2 ++ blackTermRows3 ++
      blackMakeupRows0 ++ blackMakeupRows1 ++ blackExtendedRows ++ blackEolRows
  | .mode => modeRows

/-- R127: the window width `WIN_T`. -/
def Table.window : Table → Nat
  | .white => 12
  | .black => 13
  | .mode => 7

/-- R127: the follow-on width `X_T`; the run tables have none (they have no indirect entry). -/
def Table.followOn : Table → Nat
  | .white => 0
  | .black => 0
  | .mode => 5

/-- R127: the longest code word `MAXLEN_T`. -/
def Table.maxLen : Table → Nat
  | .white => 12
  | .black => 13
  | .mode => 12

/-- R127: the illegal-prefix zeros `Z_T`. -/
def Table.zeros : Table → Nat
  | .white => 8
  | .black => 8
  | .mode => 7

/-- What the bits at the cursor are in one table: a code word and the bits after it, an incomplete code
word at the end of the data (`eod`), or an illegal pattern (`invalid`). -/
inductive Decoded where
  | code (i : Instr) (rest : Bits)
  | eod
  | invalid
  deriving DecidableEq, Repr

/-- The decoder: R120 over the code set of `t`, at the remaining bits `bits`, cut at `MAXLEN_T`. The code
set is prefix-free (R97), so the first row found is the only one. Total on every bit string. -/
def decode (t : Table) (bits : Bits) : Decoded :=
  let r := bits.take t.maxLen
  match (codeRows t).find? (fun row => row.word.isPrefixOf r) with
  | some row => .code row.instr (bits.drop row.width)
  | none =>
    if (codeRows t).any (fun row => r.isPrefixOf row.word && decide (r.length < row.width)) then .eod
    else .invalid

/-- The encoder: the code word of an instruction, from R92 to R96. -/
def encode : Instr → Bits
  | .wt0 => toBits 8 0b00110101
  | .wt1 => toBits 6 0b000111
  | .wt2 => toBits 4 0b0111
  | .wt3 => toBits 4 0b1000
  | .wt4 => toBits 4 0b1011
  | .wt5 => toBits 4 0b1100
  | .wt6 => toBits 4 0b1110
  | .wt7 => toBits 4 0b1111
  | .wt8 => toBits 5 0b10011
  | .wt9 => toBits 5 0b10100
  | .wt10 => toBits 5 0b00111
  | .wt11 => toBits 5 0b01000
  | .wt12 => toBits 6 0b001000
  | .wt13 => toBits 6 0b000011
  | .wt14 => toBits 6 0b110100
  | .wt15 => toBits 6 0b110101
  | .wt16 => toBits 6 0b101010
  | .wt17 => toBits 6 0b101011
  | .wt18 => toBits 7 0b0100111
  | .wt19 => toBits 7 0b0001100
  | .wt20 => toBits 7 0b0001000
  | .wt21 => toBits 7 0b0010111
  | .wt22 => toBits 7 0b0000011
  | .wt23 => toBits 7 0b0000100
  | .wt24 => toBits 7 0b0101000
  | .wt25 => toBits 7 0b0101011
  | .wt26 => toBits 7 0b0010011
  | .wt27 => toBits 7 0b0100100
  | .wt28 => toBits 7 0b0011000
  | .wt29 => toBits 8 0b00000010
  | .wt30 => toBits 8 0b00000011
  | .wt31 => toBits 8 0b00011010
  | .wt32 => toBits 8 0b00011011
  | .wt33 => toBits 8 0b00010010
  | .wt34 => toBits 8 0b00010011
  | .wt35 => toBits 8 0b00010100
  | .wt36 => toBits 8 0b00010101
  | .wt37 => toBits 8 0b00010110
  | .wt38 => toBits 8 0b00010111
  | .wt39 => toBits 8 0b00101000
  | .wt40 => toBits 8 0b00101001
  | .wt41 => toBits 8 0b00101010
  | .wt42 => toBits 8 0b00101011
  | .wt43 => toBits 8 0b00101100
  | .wt44 => toBits 8 0b00101101
  | .wt45 => toBits 8 0b00000100
  | .wt46 => toBits 8 0b00000101
  | .wt47 => toBits 8 0b00001010
  | .wt48 => toBits 8 0b00001011
  | .wt49 => toBits 8 0b01010010
  | .wt50 => toBits 8 0b01010011
  | .wt51 => toBits 8 0b01010100
  | .wt52 => toBits 8 0b01010101
  | .wt53 => toBits 8 0b00100100
  | .wt54 => toBits 8 0b00100101
  | .wt55 => toBits 8 0b01011000
  | .wt56 => toBits 8 0b01011001
  | .wt57 => toBits 8 0b01011010
  | .wt58 => toBits 8 0b01011011
  | .wt59 => toBits 8 0b01001010
  | .wt60 => toBits 8 0b01001011
  | .wt61 => toBits 8 0b00110010
  | .wt62 => toBits 8 0b00110011
  | .wt63 => toBits 8 0b00110100
  | .wm64 => toBits 5 0b11011
  | .wm128 => toBits 5 0b10010
  | .wm192 => toBits 6 0b010111
  | .wm256 => toBits 7 0b0110111
  | .wm320 => toBits 8 0b00110110
  | .wm384 => toBits 8 0b00110111
  | .wm448 => toBits 8 0b01100100
  | .wm512 => toBits 8 0b01100101
  | .wm576 => toBits 8 0b01101000
  | .wm640 => toBits 8 0b01100111
  | .wm704 => toBits 9 0b011001100
  | .wm768 => toBits 9 0b011001101
  | .wm832 => toBits 9 0b011010010
  | .wm896 => toBits 9 0b011010011
  | .wm960 => toBits 9 0b011010100
  | .wm1024 => toBits 9 0b011010101
  | .wm1088 => toBits 9 0b011010110
  | .wm1152 => toBits 9 0b011010111
  | .wm1216 => toBits 9 0b011011000
  | .wm1280 => toBits 9 0b011011001
  | .wm1344 => toBits 9 0b011011010
  | .wm1408 => toBits 9 0b011011011
  | .wm1472 => toBits 9 0b010011000
  | .wm1536 => toBits 9 0b010011001
  | .wm1600 => toBits 9 0b010011010
  | .wm1664 => toBits 6 0b011000
  | .wm1728 => toBits 9 0b010011011
  | .wx1792 => toBits 11 0b00000001000
  | .wx1856 => toBits 11 0b00000001100
  | .wx1920 => toBits 11 0b00000001101
  | .wx1984 => toBits 12 0b000000010010
  | .wx2048 => toBits 12 0b000000010011
  | .wx2112 => toBits 12 0b000000010100
  | .wx2176 => toBits 12 0b000000010101
  | .wx2240 => toBits 12 0b000000010110
  | .wx2304 => toBits 12 0b000000010111
  | .wx2368 => toBits 12 0b000000011100
  | .wx2432 => toBits 12 0b000000011101
  | .wx2496 => toBits 12 0b000000011110
  | .wx2560 => toBits 12 0b000000011111
  | .weol => toBits 12 0b000000000001
  | .bt0 => toBits 10 0b0000110111
  | .bt1 => toBits 3 0b010
  | .bt2 => toBits 2 0b11
  | .bt3 => toBits 2 0b10
  | .bt4 => toBits 3 0b011
  | .bt5 => toBits 4 0b0011
  | .bt6 => toBits 4 0b0010
  | .bt7 => toBits 5 0b00011
  | .bt8 => toBits 6 0b000101
  | .bt9 => toBits 6 0b000100
  | .bt10 => toBits 7 0b0000100
  | .bt11 => toBits 7 0b0000101
  | .bt12 => toBits 7 0b0000111
  | .bt13 => toBits 8 0b00000100
  | .bt14 => toBits 8 0b00000111
  | .bt15 => toBits 9 0b000011000
  | .bt16 => toBits 10 0b0000010111
  | .bt17 => toBits 10 0b0000011000
  | .bt18 => toBits 10 0b0000001000
  | .bt19 => toBits 11 0b00001100111
  | .bt20 => toBits 11 0b00001101000
  | .bt21 => toBits 11 0b00001101100
  | .bt22 => toBits 11 0b00000110111
  | .bt23 => toBits 11 0b00000101000
  | .bt24 => toBits 11 0b00000010111
  | .bt25 => toBits 11 0b00000011000
  | .bt26 => toBits 12 0b000011001010
  | .bt27 => toBits 12 0b000011001011
  | .bt28 => toBits 12 0b000011001100
  | .bt29 => toBits 12 0b000011001101
  | .bt30 => toBits 12 0b000001101000
  | .bt31 => toBits 12 0b000001101001
  | .bt32 => toBits 12 0b000001101010
  | .bt33 => toBits 12 0b000001101011
  | .bt34 => toBits 12 0b000011010010
  | .bt35 => toBits 12 0b000011010011
  | .bt36 => toBits 12 0b000011010100
  | .bt37 => toBits 12 0b000011010101
  | .bt38 => toBits 12 0b000011010110
  | .bt39 => toBits 12 0b000011010111
  | .bt40 => toBits 12 0b000001101100
  | .bt41 => toBits 12 0b000001101101
  | .bt42 => toBits 12 0b000011011010
  | .bt43 => toBits 12 0b000011011011
  | .bt44 => toBits 12 0b000001010100
  | .bt45 => toBits 12 0b000001010101
  | .bt46 => toBits 12 0b000001010110
  | .bt47 => toBits 12 0b000001010111
  | .bt48 => toBits 12 0b000001100100
  | .bt49 => toBits 12 0b000001100101
  | .bt50 => toBits 12 0b000001010010
  | .bt51 => toBits 12 0b000001010011
  | .bt52 => toBits 12 0b000000100100
  | .bt53 => toBits 12 0b000000110111
  | .bt54 => toBits 12 0b000000111000
  | .bt55 => toBits 12 0b000000100111
  | .bt56 => toBits 12 0b000000101000
  | .bt57 => toBits 12 0b000001011000
  | .bt58 => toBits 12 0b000001011001
  | .bt59 => toBits 12 0b000000101011
  | .bt60 => toBits 12 0b000000101100
  | .bt61 => toBits 12 0b000001011010
  | .bt62 => toBits 12 0b000001100110
  | .bt63 => toBits 12 0b000001100111
  | .bm64 => toBits 10 0b0000001111
  | .bm128 => toBits 12 0b000011001000
  | .bm192 => toBits 12 0b000011001001
  | .bm256 => toBits 12 0b000001011011
  | .bm320 => toBits 12 0b000000110011
  | .bm384 => toBits 12 0b000000110100
  | .bm448 => toBits 12 0b000000110101
  | .bm512 => toBits 13 0b0000001101100
  | .bm576 => toBits 13 0b0000001101101
  | .bm640 => toBits 13 0b0000001001010
  | .bm704 => toBits 13 0b0000001001011
  | .bm768 => toBits 13 0b0000001001100
  | .bm832 => toBits 13 0b0000001001101
  | .bm896 => toBits 13 0b0000001110010
  | .bm960 => toBits 13 0b0000001110011
  | .bm1024 => toBits 13 0b0000001110100
  | .bm1088 => toBits 13 0b0000001110101
  | .bm1152 => toBits 13 0b0000001110110
  | .bm1216 => toBits 13 0b0000001110111
  | .bm1280 => toBits 13 0b0000001010010
  | .bm1344 => toBits 13 0b0000001010011
  | .bm1408 => toBits 13 0b0000001010100
  | .bm1472 => toBits 13 0b0000001010101
  | .bm1536 => toBits 13 0b0000001011010
  | .bm1600 => toBits 13 0b0000001011011
  | .bm1664 => toBits 13 0b0000001100100
  | .bm1728 => toBits 13 0b0000001100101
  | .bx1792 => toBits 11 0b00000001000
  | .bx1856 => toBits 11 0b00000001100
  | .bx1920 => toBits 11 0b00000001101
  | .bx1984 => toBits 12 0b000000010010
  | .bx2048 => toBits 12 0b000000010011
  | .bx2112 => toBits 12 0b000000010100
  | .bx2176 => toBits 12 0b000000010101
  | .bx2240 => toBits 12 0b000000010110
  | .bx2304 => toBits 12 0b000000010111
  | .bx2368 => toBits 12 0b000000011100
  | .bx2432 => toBits 12 0b000000011101
  | .bx2496 => toBits 12 0b000000011110
  | .bx2560 => toBits 12 0b000000011111
  | .beol => toBits 12 0b000000000001
  | .p => toBits 4 0b0001
  | .h => toBits 3 0b001
  | .v0 => toBits 1 0b1
  | .vr1 => toBits 3 0b011
  | .vr2 => toBits 6 0b000011
  | .vr3 => toBits 7 0b0000011
  | .vl1 => toBits 3 0b010
  | .vl2 => toBits 6 0b000010
  | .vl3 => toBits 7 0b0000010
  | .ext => toBits 7 0b0000001
  | .eol => toBits 12 0b000000000001

/-- R101: `mask = (2^|c| − 1) << (13 − |c|)`, relative to a 13-bit window. -/
def Instr.mask (i : Instr) : Nat :=
  (2 ^ (encode i).length - 1) <<< (13 - (encode i).length)

/-- R101: `match = c << (13 − |c|)`, relative to a 13-bit window. -/
def Instr.matchValue (i : Instr) : Nat := ofBits (encode i) <<< (13 - (encode i).length)

/-- The 13 stream bits of a table number: the opcode table gives a code word relative to a 13-bit window
(R101), whose bit 12 is the first stream bit. Bits 13 and up of the number are no stream bits (log 8). -/
def windowBits (w : Nat) : Bits := toBits 13 w

/-- Whether `w` is exactly the left-aligned code word of a row of `t`, zeros after it: the row's `match`. -/
def isRowWord (t : Table) (w : Nat) : Bool :=
  (codeRows t).any (fun row => row.bits <<< (13 - row.width) == w % 8192)

/-- The table a bare window is read in. A window alone does not say its table (R90: "the same bit string
can be different instructions in different phases"), so one is chosen: the first of mode, white, black
that has the window as a row's own number, else the first of white, black, mode that decodes it
(DESIGN CHOICE, log 8). -/
def tableOfWindow (w : Nat) : Table :=
  if isRowWord .mode w then .mode
  else if isRowWord .white w then .white
  else if isRowWord .black w then .black
  else
    match decode .white (windowBits w) with
    | .code _ _ => .white
    | _ =>
      match decode .black (windowBits w) with
      | .code _ _ => .black
      | _ => .mode

/-- The instruction the decoder reads from a window numbered as the opcode table numbers it. -/
def decodeTableWord (_nbits w : Nat) : Option Instr :=
  match decode (tableOfWindow w) (windowBits w) with
  | .code i _ => some i
  | _ => none

end Sys2Proof
end

