-- ==== Sys2Proof/Machine/State.lean ====
section
/-! DEFINITION. The state of the machine as plain data: the registers of spec/10_state.md R21 to R36, the
spaces of spec/20_memory.md R60, the host's coming actions, the parameters of spec/00_scope.md R8; and
the reset state (R41). -/

namespace Sys2Proof.Machine

/-- PHASE (R22). Values 6 and 7 are never written: a model has no state with them. -/
inductive Phase where
  | idle
  | run1D
  | mode2D
  | hrun1
  | hrun2
  | done
  deriving DecidableEq, Repr

/-- CMODE (R28): 0 Group3_1D, 1 Group3_2D, 2 Group4. Value 3 is reserved and never latched. -/
inductive CodingMode where
  | group3_1D
  | group3_2D
  | group4
  deriving DecidableEq, Repr

/-- STATUS.KIND (R34): 0 LINE, 1 EOS, 2 ERROR; 3 is never written. -/
inductive Kind where
  | line
  | eos
  | error
  deriving DecidableEq, Repr

/-- STATUS.ERR (R34, R240): 0 none and the four errors; 5 to 7 are never written. -/
inductive ErrCode where
  | none
  | invalidCode
  | invalidModeCode
  | runOverflow
  | unexpectedEndOfData
  deriving DecidableEq, Repr

/-- An error with its recorded values (R240). -/
inductive ErrInfo where
  | invalidCode (offset : Nat)
  | invalidModeCode (offset : Nat)
  | runOverflow (accumulated expected : Nat)
  | unexpectedEndOfData (offset : Nat)
  deriving DecidableEq, Repr

/-- The host-visible registers (R37, first two rows). The working registers are hidden: the host has no
name for them. -/
inductive HostReg where
  | inCur
  | inWidth
  | inMode
  | inRef (i : Nat)
  | inRefCount
  | status
  | outCur
  | outCount
  | outRuns (i : Nat)
  | errOffset
  | errAcc
  | errExp
  deriving DecidableEq, Repr

/-- One action of the host, landing between two engine steps (R20, R33, R216, R270). `yield` is a turn in
which the host does nothing and the engine takes its step; `loadStream` supplies the first `n` stream
bits of a byte buffer through FILL_ORDER (R66, R273; N is cut to the buffer's bits, log 30). -/
inductive HostAction where
  | yield
  | write (r : HostReg) (v : Nat)
  | read (r : HostReg)
  | start
  | ack
  | abort
  | reset
  | loadStream (bytes : List Byte) (n : Nat)
  deriving DecidableEq, Repr

/-- Which scalar input registers were written since reset (R273). -/
structure InWritten where
  cur : Bool
  width : Bool
  mode : Bool
  refCount : Bool
  deriving DecidableEq, Repr

/-- A run buffer the host writes cell by cell: index and value, indices strictly rising. An index that is
not listed was never written since reset and has no value (log 5). -/
abbrev Cells := List (Nat × Nat)

/-- The spaces with contents that can change (R60). The ROMs are constant: Machine/Rom.lean. -/
structure Memory where
  /-- STREAM: `S[0..N-1]`, N its length (R10, R61). -/
  stream : Bits
  /-- IN_REF (R32). -/
  inRef : Cells
  /-- OUT_RUNS (R35): the cells written since reset, which are always an initial segment of the buffer
  (R210 writes `OUT_RUNS[0 .. |RUNS|-1]`). -/
  outRuns : List Nat
  deriving DecidableEq, Repr

/-- The canonical form of a run buffer: indices strictly rising. -/
def cellsRising : Cells → Bool
  | [] => true
  | [_] => true
  | a :: b :: rest => decide (a.1 < b.1) && cellsRising (b :: rest)

/-- The canonical form of the memory. STREAM and OUT_RUNS are lists by position, canonical as they are;
an unlisted IN_REF cell reads as no value, so any listed value differs from it. -/
abbrev Memory.wf (m : Memory) : Prop := cellsRising m.inRef = true

/-- The machine's state. -/
structure State where
  /-- CUR, the bit cursor (R21). -/
  cur : Nat
  /-- PHASE (R22). -/
  phase : Phase
  /-- COLOR (R23). -/
  color : Color
  /-- A0, in −1..W (R24). -/
  a0 : Int
  /-- RS, the run start (R25). -/
  rs : Nat
  /-- RACC, the run accumulator (R26). -/
  racc : Nat
  /-- W, the latched image width (R27). -/
  width : Nat
  /-- CMODE (R28). -/
  cmode : CodingMode
  /-- RUNS, the output run list being built (R29). -/
  runs : List Nat
  /-- REF, the latched reference line (R30). -/
  refLine : List Nat
  /-- IN_CUR (R32). -/
  inCur : Nat
  /-- IN_WIDTH (R32). -/
  inWidth : Nat
  /-- IN_MODE, 2 bits (R32, R28). -/
  inMode : BitVec 2
  /-- IN_REF_COUNT (R32), 0 to P_MAX_RUNS (log 14). -/
  inRefCount : Nat
  /-- Which of the four above were written since reset (R273). -/
  inWritten : InWritten
  /-- STATUS.KIND as stored; STATUS is a view, `statusWord` (R34, log 18). -/
  kind : Kind
  /-- STATUS.ERR as stored (R34). -/
  err : ErrCode
  /-- OUT_CUR (R35). -/
  outCur : Nat
  /-- OUT_COUNT (R35). -/
  outCount : Nat
  /-- ERR_OFFSET (R36). -/
  errOffset : Nat
  /-- ERR_ACC (R36). -/
  errAcc : Nat
  /-- ERR_EXP (R36). -/
  errExp : Nat
  /-- STREAM, IN_REF and OUT_RUNS (R60). -/
  mem : Memory
  /-- The machine's parameters (R8); no step changes them (log 1). -/
  params : Params
  /-- The host's coming actions, oldest first; the model's own field (log 2). -/
  hostQueue : List HostAction
  /-- The counter free values are taken at; the model's own field (log 6). -/
  freeIndex : Nat
  /-- What the host's last register read returned; the model's own field (log 6). -/
  readData : Nat
  /-- Whether the host has seen `STATUS.DONE = 1` for the command whose results are held: its duty of R278 (d)
  is about that; the model's own field (log 20). -/
  doneSeen : Bool
  deriving DecidableEq, Repr

/-- Why the machine stops with a fault. -/
inductive Fault where
  /-- The host reads or writes a run-buffer cell at or past P_MAX_RUNS, which does not exist (R60).
  Raised by the host port. Safe: the machine stops. -/
  | noSuchCell
  deriving DecidableEq, Repr

/-- Why the machine gives a run no meaning: what R9 and R278 refuse, by name. All are safe: the machine
stops where a refused run would go on. -/
inductive Refusal where
  /-- An instruction without a meaning yet. Raised by `exec`'s refused arms only (there are none). Safe. -/
  | notModelled (mnemonic : String)
  /-- The code word is not in the table PHASE and COLOR select (R90, the Condition of R141 to R148 and R175
  to R185). Raised by a meaning run outside its condition, which no step does (log 12). Safe. -/
  | notInCurrentTable
  /-- A cursor value would exceed 2^P_CUR_BITS − 1 (R9). Raised by `consume`. Safe. -/
  | cursorExceeded
  /-- A position or accumulator value would exceed 2^P_ACC_BITS − 1 (R9, R152). Raised by `checkAcc`. Safe. -/
  | positionExceeded
  /-- An emit beyond P_MAX_RUNS (R9, R204). Raised by `emit`. Safe. -/
  | runBufferFull
  /-- An emit of a1 − RS with a1 < RS, which is no natural (R190, R204). Raised by `emitTo` in states no run
  reaches (log 11). Safe. -/
  | negativeRun
  /-- START outside IDLE and DONE, or ACK outside DONE (R33, R278 c). Raised by the host port. Safe. -/
  | strobeNotAccepted
  /-- START before IN_CUR, IN_WIDTH or IN_MODE, or in a 2D mode IN_REF_COUNT or a counted IN_REF cell, was
  written since reset (R273). Raised by START. Safe. -/
  | inputNotWritten
  /-- START with IN_MODE = 3 (R28, R9). Raised by START. Safe. -/
  | reservedMode
  /-- START with IN_WIDTH outside 1..P_MAX_WIDTH (R9, R278 e) or beyond 2^P_ACC_BITS − 1 (R152). Raised by
  START. Safe. -/
  | widthNotAdmitted
  /-- START with IN_CUR beyond N (R9). Raised by START. Safe. -/
  | cursorPastEnd
  /-- START on a stream of 2^P_CUR_BITS bits or more (R8). Raised by START. Safe. -/
  | streamTooLong
  /-- START with IN_REF_COUNT beyond P_MAX_RUNS (R30). Raised by START. Safe. -/
  | referenceTooLong
  /-- START in a 2D mode with a reference line that is not well formed for W (R31, R9, R278 e). Raised by
  START. Safe. -/
  | referenceIllFormed
  /-- A host write to an input register while BUSY (R37, R278 a). Raised by the host port. Safe. -/
  | writeWhileBusy
  /-- A host write to a read-only register (R37, log 27). Raised by the host port. Safe. -/
  | readOnlyRegister
  /-- A host write of a value its register cannot hold (R8, R9). Raised by the host port. Safe. -/
  | valueTooWide
  /-- A host read of a result or error register before the host has seen DONE = 1, or after DONE was left
  (R278 d). Raised by the host port. Safe. -/
  | resultNotValid
  /-- A change of the stream while BUSY (R74, R278 b). Raised by the host port. Safe. -/
  | streamWhileBusy
  deriving DecidableEq, Repr

/-- Right after reset (R41, R270). IN_CUR, IN_WIDTH, IN_MODE and IN_REF_COUNT, which R41 leaves
unspecified, are 0 (DESIGN CHOICE, log 4); no IN_REF or OUT_RUNS cell has a value (log 5); the stream is
empty (log 3); parameters, host queue, `freeIndex`, `readData` and `doneSeen` are the model's own (log 1,
2, 6, 20). -/
def State.reset : State :=
  { cur := 0
    phase := .idle
    color := .white
    a0 := -1
    rs := 0
    racc := 0
    width := 0
    cmode := .group3_1D
    runs := []
    refLine := []
    inCur := 0
    inWidth := 0
    inMode := 0
    inRefCount := 0
    inWritten := { cur := false, width := false, mode := false, refCount := false }
    kind := .line
    err := .none
    outCur := 0
    outCount := 0
    errOffset := 0
    errAcc := 0
    errExp := 0
    mem := { stream := [], inRef := [], outRuns := [] }
    params := Config.resetParams
    hostQueue := []
    freeIndex := 0
    readData := 0
    doneSeen := false }

end Sys2Proof.Machine
end

