-- ==== Sys2Proof/Machine/Flags.lean ====
section
/-! DEFINITION. STATUS as the host reads it (spec/10_state.md R34): BUSY and DONE computed from PHASE, KIND
and ERR with their codes; and the codes of errors (spec/60_exceptions.md R240). -/

namespace Sys2Proof.Machine

/-- R34: `BUSY = 1` iff `PHASE ∈ {RUN1D, MODE2D, HRUN1, HRUN2}`. -/
def Phase.busy : Phase → Bool
  | .idle => false
  | .run1D => true
  | .mode2D => true
  | .hrun1 => true
  | .hrun2 => true
  | .done => false

/-- STATUS.BUSY. -/
def State.busy (s : State) : Bool := s.phase.busy

/-- STATUS.DONE (R34). -/
def State.isDone (s : State) : Bool := s.phase == .done

/-- The number of a phase (R22). -/
def Phase.code : Phase → Nat
  | .idle => 0
  | .run1D => 1
  | .mode2D => 2
  | .hrun1 => 3
  | .hrun2 => 4
  | .done => 5

/-- KIND's two bits (R34). -/
def Kind.code : Kind → Nat
  | .line => 0
  | .eos => 1
  | .error => 2

/-- ERR's three bits (R34, R240). -/
def ErrCode.code : ErrCode → Nat
  | .none => 0
  | .invalidCode => 1
  | .invalidModeCode => 2
  | .runOverflow => 3
  | .unexpectedEndOfData => 4

/-- The coding modes' numbers (R28). -/
def CodingMode.code : CodingMode → Nat
  | .group3_1D => 0
  | .group3_2D => 1
  | .group4 => 2

/-- IN_MODE read as a coding mode; 3 is reserved (R28). -/
def modeOfBits (b : BitVec 2) : Option CodingMode :=
  match b.toNat with
  | 0 => some .group3_1D
  | 1 => some .group3_2D
  | 2 => some .group4
  | _ => none

/-- STATUS (R34): bit 0 BUSY, bit 1 DONE, bits 3:2 KIND, bits 6:4 ERR, bits 15:7 zero. KIND and ERR "are
meaningful only when DONE = 1; otherwise they read 0". -/
def statusWord (s : State) : BitVec 16 :=
  BitVec.ofNat 16
    (s.busy.toNat + 2 * s.isDone.toNat
      + (if s.isDone then 4 * s.kind.code + 16 * s.err.code else 0))

/-- The ERR code of an error (R240). -/
def ErrInfo.code : ErrInfo → ErrCode
  | .invalidCode _ => .invalidCode
  | .invalidModeCode _ => .invalidModeCode
  | .runOverflow _ _ => .runOverflow
  | .unexpectedEndOfData _ => .unexpectedEndOfData

/-- ERR_OFFSET after an error, from its value before (R242): only RunOverflow leaves it. -/
def ErrInfo.offsetOr (old : Nat) : ErrInfo → Nat
  | .invalidCode o => o
  | .invalidModeCode o => o
  | .runOverflow _ _ => old
  | .unexpectedEndOfData o => o

/-- ERR_ACC after an error (R242): only RunOverflow writes it. -/
def ErrInfo.accOr (old : Nat) : ErrInfo → Nat
  | .invalidCode _ => old
  | .invalidModeCode _ => old
  | .runOverflow a _ => a
  | .unexpectedEndOfData _ => old

/-- ERR_EXP after an error (R242): only RunOverflow writes it. -/
def ErrInfo.expOr (old : Nat) : ErrInfo → Nat
  | .invalidCode _ => old
  | .invalidModeCode _ => old
  | .runOverflow _ e => e
  | .unexpectedEndOfData _ => old

end Sys2Proof.Machine
end

