-- ==== Sys2Proof/Machine/Operands.lean ====
section
/-! DEFINITION. The operands of a step: the bit-stream port (spec/20_memory.md R61), the table and run colour
in force (spec/41_run_codes.md R140, spec/42_mode_codes.md R186), and the changing elements of the reference
line (spec/42_mode_codes.md R170 to R174). -/

namespace Sys2Proof.Machine

/-! ## The bit-stream port (R61) -/

/-- `S[CUR ..]`: the real remaining bits. -/
def remaining (s : State) : Bits := s.mem.stream.drop s.cur

/-- The next `n` bits, 0 at and past N (R62). -/
def padded : Nat → Bits → Bits
  | 0, _ => []
  | n + 1, [] => false :: padded n []
  | n + 1, b :: bs => b :: padded n bs

/-- `peek_bits(n)` on the remaining bits: a 16-bit value whose bit `n-1-j` is the `j`-th next bit. The
engine peeks with n in 0..13 only. -/
def peekBits (n : Nat) (bits : Bits) : Window := BitVec.ofNat 16 (ofBits (padded n bits))

/-- `consume_bits(n)`: the cursor moves (R61). -/
def State.advance (n : Nat) (s : State) : State := { s with cur := s.cur + n }

/-- `bits_remaining()`: `N − CUR`. -/
def bitsRemaining (s : State) : Nat := s.mem.stream.length - s.cur

/-- `at_end()`: `CUR = N`. -/
def atEnd (s : State) : Bool := s.cur == s.mem.stream.length

/-! ## The table in force -/

/-- The run colour `rc` of R140, in the three run phases. -/
def runColor (s : State) : Option Color :=
  match s.phase with
  | .run1D => some s.color
  | .hrun1 => some s.color
  | .hrun2 => some s.color.flip
  | .mode2D => none
  | .idle => none
  | .done => none

/-- The table the next code word is read from (R90, R140, R186); none in IDLE and DONE, where no step is
executed (R202). -/
def currentTable (s : State) : Option Table :=
  match s.phase with
  | .mode2D => some .mode
  | _ => (runColor s).map Table.ofColor

/-! ## The reference line -/

/-- The pixels of a run list that starts with a run of colour `c` (R11). -/
def pixelsFrom (c : Color) : List Nat → List Color
  | [] => []
  | r :: rest => List.replicate r c ++ pixelsFrom c.flip rest

/-- The pixels of a run list: it "always starts with a White run" (R11). -/
def pixels (runs : List Nat) : List Color := pixelsFrom .white runs

/-- The colour of pixel `i` of a run list that starts with colour `c`: that of the first run whose end is
past `i` (R170). Past the last run it stays at the colour that would come next; no rule reads it there. -/
def pixelFrom (c : Color) : List Nat → Nat → Color
  | [], _ => c
  | r :: rest, i => if i < r then c else pixelFrom c.flip rest (i - r)

/-- `refpx(i)` (R170): White before the line. -/
def refpx (ref : List Nat) (i : Int) : Color :=
  if i < 0 then .white else pixelFrom .white ref i.toNat

/-- `CE` (R171), in rising order: computed from pixels, so that a zero-length run makes no element. -/
def changingElements (ref : List Nat) (width : Nat) : List Nat :=
  (List.range width).filter (fun (i : Nat) => refpx ref i != refpx ref ((i : Int) - 1))

/-- `b1` (R172): the first changing element to the right of a0 whose colour is not COLOR, else W. -/
def b1 (s : State) : Nat :=
  ((changingElements s.refLine s.width).find?
    (fun (i : Nat) => decide (s.a0 < (i : Int)) && (refpx s.refLine i != s.color))).getD s.width

/-- `b2` (R173): the next changing element to the right of b1, else W. -/
def b2 (s : State) : Nat :=
  ((changingElements s.refLine s.width).find? (fun (i : Nat) => decide (b1 s < i))).getD s.width

/-- `pos0 = max(A0, 0)` (R174). -/
def pos0 (s : State) : Nat := s.a0.toNat

/-- A reference line is well formed for W: not empty, and its runs sum to W (R31). -/
def refWellFormed (ref : List Nat) (width : Nat) : Bool := !ref.isEmpty && ref.sum == width

end Sys2Proof.Machine
end

