-- ==== Sys2Proof/Machine/Ops.lean ====
section
/-! DEFINITION. The shared operations: emit, finish, raise (taking an error outcome, spec/60_exceptions.md R242)
and the ways out of it (START, ACK, ABORT, reset), run completion and the line check (spec/43_scanline.md
R200 to R216), the vertical procedure (spec/42_mode_codes.md R187), and the run-buffer cells. -/

namespace Sys2Proof.Machine

/-- What a step answers. -/
abbrev Result := Host.Outcome State Fault Refusal

/-- Go on from a next state; a stop stays a stop. -/
def andThen (r : Result) (f : State → Result) : Result :=
  match r with
  | .next s => f s
  | .fault x => .fault x
  | .refused x => .refused x

/-! ## Bounds (R9), consuming, emitting -/

/-- `consume_bits(n)` within P_CUR_BITS (R9, R61). -/
def consume (n : Nat) (s : State) : Result :=
  if s.cur + n < 2 ^ s.params.curBits then .next (s.advance n) else .refused .cursorExceeded

/-- No position or accumulator value may exceed `2^P_ACC_BITS − 1` (R9): `v` is about to be held. -/
def checkAcc (v : Nat) (s : State) : Result :=
  if v < 2 ^ s.params.accBits then .next s else .refused .positionExceeded

/-- `RUNS <- RUNS ++ [n]`. -/
def State.appendRun (n : Nat) (s : State) : State := { s with runs := s.runs ++ [n] }

/-- `Emit(n)` (R204): the only way a run enters the line; refused at capacity. -/
def emit (n : Nat) (s : State) : Result :=
  if s.runs.length < s.params.maxRuns then .next (s.appendRun n) else .refused .runBufferFull

/-- `Emit(a − RS)`, the run that ends at position `a`, which is a natural wherever a run reaches (R190). -/
def emitTo (a : Nat) (s : State) : Result :=
  if s.rs ≤ a then emit (a - s.rs) s else .refused .negativeRun

/-! ## Ending a command -/

/-- OUT_RUNS after `OUT_RUNS[0 .. |runs|-1] <- runs` (R210). -/
def storeOutRuns (runs : List Nat) (m : Memory) : Memory :=
  { m with outRuns := runs ++ m.outRuns.drop runs.length }

/-- `Finish(k)` (R210). -/
def State.finish (k : Kind) (s : State) : State :=
  { s with
    outCur := s.cur
    outCount := s.runs.length
    mem := storeOutRuns s.runs s.mem
    kind := k
    phase := .done }

/-- The error registers of `raise E(info)` (R242): ERR, and the fields that belong to E. -/
def State.recordErr (e : ErrInfo) (s : State) : State :=
  { s with
    err := e.code
    errOffset := e.offsetOr s.errOffset
    errAcc := e.accOr s.errAcc
    errExp := e.expOr s.errExp }

/-- `raise E(info)` (R242): the one way an error is taken. There is no trap entry (R250): the command ends
in DONE with outcome ERROR. -/
def State.raise (e : ErrInfo) (s : State) : State := (s.recordErr e).finish .error

/-- `ACK` (R215): STATUS <- 0, PHASE <- IDLE; the result and error registers keep their values. -/
def State.ackDone (s : State) : State :=
  { s with kind := .line, err := .none, phase := .idle, doneSeen := false }

/-- `ABORT` (R216): the same, from any phase. -/
def State.abort (s : State) : State :=
  { s with kind := .line, err := .none, phase := .idle, doneSeen := false }

/-- A reset asserted at any time (R270): every register at its reset value. STREAM is no register; the
parameters, the queue, `freeIndex` and `readData` are the model's own (log 16). -/
def State.resetNow (s : State) : State :=
  { State.reset with
    mem := { State.reset.mem with stream := s.mem.stream }
    params := s.params
    hostQueue := s.hostQueue
    freeIndex := s.freeIndex
    readData := s.readData }

/-- `START` (R200, R201) with its inputs: latches, clears, and the first phase. -/
def State.startCommand (mode : CodingMode) (ref : List Nat) (s : State) : State :=
  { s with
    cur := s.inCur
    width := s.inWidth
    cmode := mode
    refLine := ref
    color := .white
    a0 := -1
    rs := 0
    racc := 0
    runs := []
    outCur := 0
    outCount := 0
    errOffset := 0
    errAcc := 0
    errExp := 0
    kind := .line
    err := .none
    phase := if mode = .group3_1D then .run1D else .mode2D
    doneSeen := false }

/-! ## Completing a run -/

/-- `RunComplete(L)` in RUN1D (R205). -/
def runComplete1D (L : Nat) (s : State) : Result :=
  andThen (checkAcc (s.rs + L) s) fun s =>
    if s.width < s.rs + L then .next (s.raise (.runOverflow (s.rs + L) s.width))
    else
      andThen (emit L s) fun s =>
        let s := { s with rs := s.rs + L, color := s.color.flip }
        .next (if s.rs = s.width then s.finish .line else s)

/-- `RunComplete(L)` in HRUN1 (R206): `a1 = max(A0, 0) + L`. -/
def runCompleteH1 (L : Nat) (s : State) : Result :=
  let a1 := pos0 s + L
  andThen (checkAcc a1 s) fun s =>
    if s.width < a1 then .next (s.raise (.runOverflow a1 s.width))
    else
      andThen (emitTo a1 s) fun s => .next { s with rs := a1, phase := .hrun2 }

/-- `LineCheck2D()` (R208). -/
def lineCheck2D (s : State) : Result :=
  if s.a0 = (s.width : Int) then
    if s.rs < s.width then
      andThen (emit (s.width - s.rs) s) fun s => .next (State.finish .line { s with rs := s.width })
    else .next (s.finish .line)
  else .next s

/-- `RunComplete(L)` in HRUN2 (R207): `a2 = RS + L`. -/
def runCompleteH2 (L : Nat) (s : State) : Result :=
  let a2 := s.rs + L
  andThen (checkAcc a2 s) fun s =>
    if s.width < a2 then .next (s.raise (.runOverflow a2 s.width))
    else
      andThen (emit L s) fun s => lineCheck2D { s with rs := a2, a0 := (a2 : Int), phase := .mode2D }

/-- `RunComplete(L)` (R205 to R207), by phase. -/
def runComplete (L : Nat) (s : State) : Result :=
  match s.phase with
  | .run1D => runComplete1D L s
  | .hrun1 => runCompleteH1 L s
  | .hrun2 => runCompleteH2 L s
  | .mode2D => .refused .notInCurrentTable
  | .idle => .refused .notInCurrentTable
  | .done => .refused .notInCurrentTable

/-! ## The effect of each class of code word -/

/-- A terminating code of colour `c`, run value `n`, `w` bits (R141, R145). -/
def runTerm (c : Color) (n w : Nat) (s : State) : Result :=
  if runColor s = some c then
    andThen (consume w s) fun s =>
      andThen (checkAcc (s.racc + n) s) fun s =>
        runComplete (s.racc + n) { s with racc := 0 }
  else .refused .notInCurrentTable

/-- A makeup code of colour `c`, run value `v`, `w` bits (R142, R146), extended or not (R143, R147). -/
def runMakeup (c : Color) (v w : Nat) (s : State) : Result :=
  if runColor s = some c then
    andThen (consume w s) fun s =>
      andThen (checkAcc (s.racc + v) s) fun s => .next { s with racc := s.racc + v }
  else .refused .notInCurrentTable

/-- EOL in a run phase (R144, R148): any makeup value is discarded, outcome EOS (R212). -/
def runEol (c : Color) (w : Nat) (s : State) : Result :=
  if runColor s = some c then
    andThen (consume w s) fun s => .next (State.finish .eos { s with racc := 0 })
  else .refused .notInCurrentTable

/-- Pass (R175): a0 moves to b2 and no run is emitted. -/
def passMode (w : Nat) (s : State) : Result :=
  if s.phase = .mode2D then
    let b := b2 s
    andThen (consume w s) fun s =>
      andThen (checkAcc b s) fun s => lineCheck2D { s with a0 := (b : Int) }
  else .refused .notInCurrentTable

/-- Horizontal (R176): two runs follow. -/
def horizontalMode (w : Nat) (s : State) : Result :=
  if s.phase = .mode2D then
    andThen (consume w s) fun s => .next { s with racc := 0, phase := .hrun1 }
  else .refused .notInCurrentTable

/-- `Vertical(k, w)` (R187): a1 left of a0 is refused with nothing consumed; past W is RunOverflow with the
code word consumed; else a run is emitted, the colour flips, and the line is checked. The position b1 is at
most W, which START bounds by `2^P_ACC_BITS − 1` (R152), so only a1 can pass that bound here (log 10). -/
def verticalMode (k : Int) (w : Nat) (s : State) : Result :=
  if s.phase = .mode2D then
    let a1 : Int := (b1 s : Int) + k
    if a1 < max s.a0 0 then .next (s.raise (.invalidModeCode s.cur))
    else
      andThen (consume w s) fun s =>
        andThen (checkAcc a1.toNat s) fun s =>
          if (s.width : Int) < a1 then .next (s.raise (.runOverflow a1.toNat s.width))
          else
            andThen (emitTo a1.toNat s) fun s =>
              lineCheck2D { s with rs := a1.toNat, a0 := a1, color := s.color.flip }
  else .refused .notInCurrentTable

/-- The 2D extension prefix (R184): `InvalidModeCode`, nothing consumed. -/
def extensionMode (s : State) : Result :=
  if s.phase = .mode2D then .next (s.raise (.invalidModeCode s.cur))
  else .refused .notInCurrentTable

/-- EOL in the mode table (R185): outcome EOS. -/
def modeEol (w : Nat) (s : State) : Result :=
  if s.phase = .mode2D then
    andThen (consume w s) fun s => .next (s.finish .eos)
  else .refused .notInCurrentTable

/-! ## Run-buffer cells -/

/-- The value of a cell; none where nothing was written since reset. -/
def readCell (i : Nat) : Cells → Option Nat
  | [] => none
  | c :: rest => if c.1 = i then some c.2 else readCell i rest

/-- Write one cell, keeping the indices strictly rising. -/
def writeCell (i v : Nat) : Cells → Cells
  | [] => [(i, v)]
  | c :: rest =>
    if i < c.1 then (i, v) :: c :: rest
    else if i = c.1 then (i, v) :: rest
    else c :: writeCell i v rest

/-- The `n` cells from index `i` on, if every one of them was written. -/
def readCells : Nat → Nat → Cells → Option (List Nat)
  | 0, _, _ => some []
  | n + 1, i, cells =>
    match readCell i cells, readCells n (i + 1) cells with
    | some v, some vs => some (v :: vs)
    | _, _ => none

/-- OUT_RUNS[i]; none where nothing was written since reset. -/
def readOutRun (m : Memory) (i : Nat) : Option Nat := m.outRuns[i]?

end Sys2Proof.Machine
end

