-- ==== Sys2Proof/Machine/BlackRun.lean ====
section
/-! DEFINITION. The meanings of the black table's code words (spec/41_run_codes.md R145 to R148). Each is the shared
operation of its class at its own run value and width (spec/30_encoding.md R92 to R95). -/

namespace Sys2Proof.Machine

/-! ## Black terminating codes (R145) -/

/-- `BT0`: run value 0, 10 bits (R145). -/
def execBt0 (s : State) : Result := runTerm .black 0 10 s

/-- `BT1`: run value 1, 3 bits (R145). -/
def execBt1 (s : State) : Result := runTerm .black 1 3 s

/-- `BT2`: run value 2, 2 bits (R145). -/
def execBt2 (s : State) : Result := runTerm .black 2 2 s

/-- `BT3`: run value 3, 2 bits (R145). -/
def execBt3 (s : State) : Result := runTerm .black 3 2 s

/-- `BT4`: run value 4, 3 bits (R145). -/
def execBt4 (s : State) : Result := runTerm .black 4 3 s

/-- `BT5`: run value 5, 4 bits (R145). -/
def execBt5 (s : State) : Result := runTerm .black 5 4 s

/-- `BT6`: run value 6, 4 bits (R145). -/
def execBt6 (s : State) : Result := runTerm .black 6 4 s

/-- `BT7`: run value 7, 5 bits (R145). -/
def execBt7 (s : State) : Result := runTerm .black 7 5 s

/-- `BT8`: run value 8, 6 bits (R145). -/
def execBt8 (s : State) : Result := runTerm .black 8 6 s

/-- `BT9`: run value 9, 6 bits (R145). -/
def execBt9 (s : State) : Result := runTerm .black 9 6 s

/-- `BT10`: run value 10, 7 bits (R145). -/
def execBt10 (s : State) : Result := runTerm .black 10 7 s

/-- `BT11`: run value 11, 7 bits (R145). -/
def execBt11 (s : State) : Result := runTerm .black 11 7 s

/-- `BT12`: run value 12, 7 bits (R145). -/
def execBt12 (s : State) : Result := runTerm .black 12 7 s

/-- `BT13`: run value 13, 8 bits (R145). -/
def execBt13 (s : State) : Result := runTerm .black 13 8 s

/-- `BT14`: run value 14, 8 bits (R145). -/
def execBt14 (s : State) : Result := runTerm .black 14 8 s

/-- `BT15`: run value 15, 9 bits (R145). -/
def execBt15 (s : State) : Result := runTerm .black 15 9 s

/-- `BT16`: run value 16, 10 bits (R145). -/
def execBt16 (s : State) : Result := runTerm .black 16 10 s

/-- `BT17`: run value 17, 10 bits (R145). -/
def execBt17 (s : State) : Result := runTerm .black 17 10 s

/-- `BT18`: run value 18, 10 bits (R145). -/
def execBt18 (s : State) : Result := runTerm .black 18 10 s

/-- `BT19`: run value 19, 11 bits (R145). -/
def execBt19 (s : State) : Result := runTerm .black 19 11 s

/-- `BT20`: run value 20, 11 bits (R145). -/
def execBt20 (s : State) : Result := runTerm .black 20 11 s

/-- `BT21`: run value 21, 11 bits (R145). -/
def execBt21 (s : State) : Result := runTerm .black 21 11 s

/-- `BT22`: run value 22, 11 bits (R145). -/
def execBt22 (s : State) : Result := runTerm .black 22 11 s

/-- `BT23`: run value 23, 11 bits (R145). -/
def execBt23 (s : State) : Result := runTerm .black 23 11 s

/-- `BT24`: run value 24, 11 bits (R145). -/
def execBt24 (s : State) : Result := runTerm .black 24 11 s

/-- `BT25`: run value 25, 11 bits (R145). -/
def execBt25 (s : State) : Result := runTerm .black 25 11 s

/-- `BT26`: run value 26, 12 bits (R145). -/
def execBt26 (s : State) : Result := runTerm .black 26 12 s

/-- `BT27`: run value 27, 12 bits (R145). -/
def execBt27 (s : State) : Result := runTerm .black 27 12 s

/-- `BT28`: run value 28, 12 bits (R145). -/
def execBt28 (s : State) : Result := runTerm .black 28 12 s

/-- `BT29`: run value 29, 12 bits (R145). -/
def execBt29 (s : State) : Result := runTerm .black 29 12 s

/-- `BT30`: run value 30, 12 bits (R145). -/
def execBt30 (s : State) : Result := runTerm .black 30 12 s

/-- `BT31`: run value 31, 12 bits (R145). -/
def execBt31 (s : State) : Result := runTerm .black 31 12 s

/-- `BT32`: run value 32, 12 bits (R145). -/
def execBt32 (s : State) : Result := runTerm .black 32 12 s

/-- `BT33`: run value 33, 12 bits (R145). -/
def execBt33 (s : State) : Result := runTerm .black 33 12 s

/-- `BT34`: run value 34, 12 bits (R145). -/
def execBt34 (s : State) : Result := runTerm .black 34 12 s

/-- `BT35`: run value 35, 12 bits (R145). -/
def execBt35 (s : State) : Result := runTerm .black 35 12 s

/-- `BT36`: run value 36, 12 bits (R145). -/
def execBt36 (s : State) : Result := runTerm .black 36 12 s

/-- `BT37`: run value 37, 12 bits (R145). -/
def execBt37 (s : State) : Result := runTerm .black 37 12 s

/-- `BT38`: run value 38, 12 bits (R145). -/
def execBt38 (s : State) : Result := runTerm .black 38 12 s

/-- `BT39`: run value 39, 12 bits (R145). -/
def execBt39 (s : State) : Result := runTerm .black 39 12 s

/-- `BT40`: run value 40, 12 bits (R145). -/
def execBt40 (s : State) : Result := runTerm .black 40 12 s

/-- `BT41`: run value 41, 12 bits (R145). -/
def execBt41 (s : State) : Result := runTerm .black 41 12 s

/-- `BT42`: run value 42, 12 bits (R145). -/
def execBt42 (s : State) : Result := runTerm .black 42 12 s

/-- `BT43`: run value 43, 12 bits (R145). -/
def execBt43 (s : State) : Result := runTerm .black 43 12 s

/-- `BT44`: run value 44, 12 bits (R145). -/
def execBt44 (s : State) : Result := runTerm .black 44 12 s

/-- `BT45`: run value 45, 12 bits (R145). -/
def execBt45 (s : State) : Result := runTerm .black 45 12 s

/-- `BT46`: run value 46, 12 bits (R145). -/
def execBt46 (s : State) : Result := runTerm .black 46 12 s

/-- `BT47`: run value 47, 12 bits (R145). -/
def execBt47 (s : State) : Result := runTerm .black 47 12 s

/-- `BT48`: run value 48, 12 bits (R145). -/
def execBt48 (s : State) : Result := runTerm .black 48 12 s

/-- `BT49`: run value 49, 12 bits (R145). -/
def execBt49 (s : State) : Result := runTerm .black 49 12 s

/-- `BT50`: run value 50, 12 bits (R145). -/
def execBt50 (s : State) : Result := runTerm .black 50 12 s

/-- `BT51`: run value 51, 12 bits (R145). -/
def execBt51 (s : State) : Result := runTerm .black 51 12 s

/-- `BT52`: run value 52, 12 bits (R145). -/
def execBt52 (s : State) : Result := runTerm .black 52 12 s

/-- `BT53`: run value 53, 12 bits (R145). -/
def execBt53 (s : State) : Result := runTerm .black 53 12 s

/-- `BT54`: run value 54, 12 bits (R145). -/
def execBt54 (s : State) : Result := runTerm .black 54 12 s

/-- `BT55`: run value 55, 12 bits (R145). -/
def execBt55 (s : State) : Result := runTerm .black 55 12 s

/-- `BT56`: run value 56, 12 bits (R145). -/
def execBt56 (s : State) : Result := runTerm .black 56 12 s

/-- `BT57`: run value 57, 12 bits (R145). -/
def execBt57 (s : State) : Result := runTerm .black 57 12 s

/-- `BT58`: run value 58, 12 bits (R145). -/
def execBt58 (s : State) : Result := runTerm .black 58 12 s

/-- `BT59`: run value 59, 12 bits (R145). -/
def execBt59 (s : State) : Result := runTerm .black 59 12 s

/-- `BT60`: run value 60, 12 bits (R145). -/
def execBt60 (s : State) : Result := runTerm .black 60 12 s

/-- `BT61`: run value 61, 12 bits (R145). -/
def execBt61 (s : State) : Result := runTerm .black 61 12 s

/-- `BT62`: run value 62, 12 bits (R145). -/
def execBt62 (s : State) : Result := runTerm .black 62 12 s

/-- `BT63`: run value 63, 12 bits (R145). -/
def execBt63 (s : State) : Result := runTerm .black 63 12 s

/-! ## Black makeup codes (R146) -/

/-- `BM64`: run value 64, 10 bits (R146). -/
def execBm64 (s : State) : Result := runMakeup .black 64 10 s

/-- `BM128`: run value 128, 12 bits (R146). -/
def execBm128 (s : State) : Result := runMakeup .black 128 12 s

/-- `BM192`: run value 192, 12 bits (R146). -/
def execBm192 (s : State) : Result := runMakeup .black 192 12 s

/-- `BM256`: run value 256, 12 bits (R146). -/
def execBm256 (s : State) : Result := runMakeup .black 256 12 s

/-- `BM320`: run value 320, 12 bits (R146). -/
def execBm320 (s : State) : Result := runMakeup .black 320 12 s

/-- `BM384`: run value 384, 12 bits (R146). -/
def execBm384 (s : State) : Result := runMakeup .black 384 12 s

/-- `BM448`: run value 448, 12 bits (R146). -/
def execBm448 (s : State) : Result := runMakeup .black 448 12 s

/-- `BM512`: run value 512, 13 bits (R146). -/
def execBm512 (s : State) : Result := runMakeup .black 512 13 s

/-- `BM576`: run value 576, 13 bits (R146). -/
def execBm576 (s : State) : Result := runMakeup .black 576 13 s

/-- `BM640`: run value 640, 13 bits (R146). -/
def execBm640 (s : State) : Result := runMakeup .black 640 13 s

/-- `BM704`: run value 704, 13 bits (R146). -/
def execBm704 (s : State) : Result := runMakeup .black 704 13 s

/-- `BM768`: run value 768, 13 bits (R146). -/
def execBm768 (s : State) : Result := runMakeup .black 768 13 s

/-- `BM832`: run value 832, 13 bits (R146). -/
def execBm832 (s : State) : Result := runMakeup .black 832 13 s

/-- `BM896`: run value 896, 13 bits (R146). -/
def execBm896 (s : State) : Result := runMakeup .black 896 13 s

/-- `BM960`: run value 960, 13 bits (R146). -/
def execBm960 (s : State) : Result := runMakeup .black 960 13 s

/-- `BM1024`: run value 1024, 13 bits (R146). -/
def execBm1024 (s : State) : Result := runMakeup .black 1024 13 s

/-- `BM1088`: run value 1088, 13 bits (R146). -/
def execBm1088 (s : State) : Result := runMakeup .black 1088 13 s

/-- `BM1152`: run value 1152, 13 bits (R146). -/
def execBm1152 (s : State) : Result := runMakeup .black 1152 13 s

/-- `BM1216`: run value 1216, 13 bits (R146). -/
def execBm1216 (s : State) : Result := runMakeup .black 1216 13 s

/-- `BM1280`: run value 1280, 13 bits (R146). -/
def execBm1280 (s : State) : Result := runMakeup .black 1280 13 s

/-- `BM1344`: run value 1344, 13 bits (R146). -/
def execBm1344 (s : State) : Result := runMakeup .black 1344 13 s

/-- `BM1408`: run value 1408, 13 bits (R146). -/
def execBm1408 (s : State) : Result := runMakeup .black 1408 13 s

/-- `BM1472`: run value 1472, 13 bits (R146). -/
def execBm1472 (s : State) : Result := runMakeup .black 1472 13 s

/-- `BM1536`: run value 1536, 13 bits (R146). -/
def execBm1536 (s : State) : Result := runMakeup .black 1536 13 s

/-- `BM1600`: run value 1600, 13 bits (R146). -/
def execBm1600 (s : State) : Result := runMakeup .black 1600 13 s

/-- `BM1664`: run value 1664, 13 bits (R146). -/
def execBm1664 (s : State) : Result := runMakeup .black 1664 13 s

/-- `BM1728`: run value 1728, 13 bits (R146). -/
def execBm1728 (s : State) : Result := runMakeup .black 1728 13 s

/-! ## Extended makeup codes in the black table (R147) -/

/-- `BX1792`: run value 1792, 11 bits (R147). -/
def execBx1792 (s : State) : Result := runMakeup .black 1792 11 s

/-- `BX1856`: run value 1856, 11 bits (R147). -/
def execBx1856 (s : State) : Result := runMakeup .black 1856 11 s

/-- `BX1920`: run value 1920, 11 bits (R147). -/
def execBx1920 (s : State) : Result := runMakeup .black 1920 11 s

/-- `BX1984`: run value 1984, 12 bits (R147). -/
def execBx1984 (s : State) : Result := runMakeup .black 1984 12 s

/-- `BX2048`: run value 2048, 12 bits (R147). -/
def execBx2048 (s : State) : Result := runMakeup .black 2048 12 s

/-- `BX2112`: run value 2112, 12 bits (R147). -/
def execBx2112 (s : State) : Result := runMakeup .black 2112 12 s

/-- `BX2176`: run value 2176, 12 bits (R147). -/
def execBx2176 (s : State) : Result := runMakeup .black 2176 12 s

/-- `BX2240`: run value 2240, 12 bits (R147). -/
def execBx2240 (s : State) : Result := runMakeup .black 2240 12 s

/-- `BX2304`: run value 2304, 12 bits (R147). -/
def execBx2304 (s : State) : Result := runMakeup .black 2304 12 s

/-- `BX2368`: run value 2368, 12 bits (R147). -/
def execBx2368 (s : State) : Result := runMakeup .black 2368 12 s

/-- `BX2432`: run value 2432, 12 bits (R147). -/
def execBx2432 (s : State) : Result := runMakeup .black 2432 12 s

/-- `BX2496`: run value 2496, 12 bits (R147). -/
def execBx2496 (s : State) : Result := runMakeup .black 2496 12 s

/-- `BX2560`: run value 2560, 12 bits (R147). -/
def execBx2560 (s : State) : Result := runMakeup .black 2560 12 s

/-! ## EOL in a black run (R148) -/

/-- `BEOL`: end of line in a black run (R148). -/
def execBeol (s : State) : Result := runEol .black 12 s

end Sys2Proof.Machine
end

