-- ==== Sys2Proof/Machine/Mode.lean ====
section
/-! DEFINITION. The meanings of the mode table's code words (spec/42_mode_codes.md R175 to R185, widths and offsets of
spec/30_encoding.md R96). -/

namespace Sys2Proof.Machine

/-! ## Mode codes -/

/-- `P`: Pass, 4 bits (R175). -/
def execP (s : State) : Result := passMode 4 s

/-- `H`: Horizontal, 3 bits (R176). -/
def execH (s : State) : Result := horizontalMode 3 s

/-- `V0`: Vertical, offset +0, 1 bits (R177). -/
def execV0 (s : State) : Result := verticalMode 0 1 s

/-- `VR1`: Vertical, offset +1, 3 bits (R178). -/
def execVr1 (s : State) : Result := verticalMode 1 3 s

/-- `VR2`: Vertical, offset +2, 6 bits (R179). -/
def execVr2 (s : State) : Result := verticalMode 2 6 s

/-- `VR3`: Vertical, offset +3, 7 bits (R180). -/
def execVr3 (s : State) : Result := verticalMode 3 7 s

/-- `VL1`: Vertical, offset -1, 3 bits (R181). -/
def execVl1 (s : State) : Result := verticalMode (-1) 3 s

/-- `VL2`: Vertical, offset -2, 6 bits (R182). -/
def execVl2 (s : State) : Result := verticalMode (-2) 6 s

/-- `VL3`: Vertical, offset -3, 7 bits (R183). -/
def execVl3 (s : State) : Result := verticalMode (-3) 7 s

/-- `EXT`: the 2D extension prefix, refused in execution by an error outcome (R184). -/
def execExt (s : State) : Result := extensionMode s

/-- `EOL`: end of line in the mode table (R185). -/
def execEol (s : State) : Result := modeEol 12 s

end Sys2Proof.Machine
end

