-- ==== Sys2Proof/Machine/WhiteRun.lean ====
section
/-! DEFINITION. The meanings of the white table's code words (spec/41_run_codes.md R141 to R144). Each is the shared
operation of its class at its own run value and width (spec/30_encoding.md R92 to R95). -/

namespace Sys2Proof.Machine

/-! ## White terminating codes (R141) -/

/-- `WT0`: run value 0, 8 bits (R141). -/
def execWt0 (s : State) : Result := runTerm .white 0 8 s

/-- `WT1`: run value 1, 6 bits (R141). -/
def execWt1 (s : State) : Result := runTerm .white 1 6 s

/-- `WT2`: run value 2, 4 bits (R141). -/
def execWt2 (s : State) : Result := runTerm .white 2 4 s

/-- `WT3`: run value 3, 4 bits (R141). -/
def execWt3 (s : State) : Result := runTerm .white 3 4 s

/-- `WT4`: run value 4, 4 bits (R141). -/
def execWt4 (s : State) : Result := runTerm .white 4 4 s

/-- `WT5`: run value 5, 4 bits (R141). -/
def execWt5 (s : State) : Result := runTerm .white 5 4 s

/-- `WT6`: run value 6, 4 bits (R141). -/
def execWt6 (s : State) : Result := runTerm .white 6 4 s

/-- `WT7`: run value 7, 4 bits (R141). -/
def execWt7 (s : State) : Result := runTerm .white 7 4 s

/-- `WT8`: run value 8, 5 bits (R141). -/
def execWt8 (s : State) : Result := runTerm .white 8 5 s

/-- `WT9`: run value 9, 5 bits (R141). -/
def execWt9 (s : State) : Result := runTerm .white 9 5 s

/-- `WT10`: run value 10, 5 bits (R141). -/
def execWt10 (s : State) : Result := runTerm .white 10 5 s

/-- `WT11`: run value 11, 5 bits (R141). -/
def execWt11 (s : State) : Result := runTerm .white 11 5 s

/-- `WT12`: run value 12, 6 bits (R141). -/
def execWt12 (s : State) : Result := runTerm .white 12 6 s

/-- `WT13`: run value 13, 6 bits (R141). -/
def execWt13 (s : State) : Result := runTerm .white 13 6 s

/-- `WT14`: run value 14, 6 bits (R141). -/
def execWt14 (s : State) : Result := runTerm .white 14 6 s

/-- `WT15`: run value 15, 6 bits (R141). -/
def execWt15 (s : State) : Result := runTerm .white 15 6 s

/-- `WT16`: run value 16, 6 bits (R141). -/
def execWt16 (s : State) : Result := runTerm .white 16 6 s

/-- `WT17`: run value 17, 6 bits (R141). -/
def execWt17 (s : State) : Result := runTerm .white 17 6 s

/-- `WT18`: run value 18, 7 bits (R141). -/
def execWt18 (s : State) : Result := runTerm .white 18 7 s

/-- `WT19`: run value 19, 7 bits (R141). -/
def execWt19 (s : State) : Result := runTerm .white 19 7 s

/-- `WT20`: run value 20, 7 bits (R141). -/
def execWt20 (s : State) : Result := runTerm .white 20 7 s

/-- `WT21`: run value 21, 7 bits (R141). -/
def execWt21 (s : State) : Result := runTerm .white 21 7 s

/-- `WT22`: run value 22, 7 bits (R141). -/
def execWt22 (s : State) : Result := runTerm .white 22 7 s

/-- `WT23`: run value 23, 7 bits (R141). -/
def execWt23 (s : State) : Result := runTerm .white 23 7 s

/-- `WT24`: run value 24, 7 bits (R141). -/
def execWt24 (s : State) : Result := runTerm .white 24 7 s

/-- `WT25`: run value 25, 7 bits (R141). -/
def execWt25 (s : State) : Result := runTerm .white 25 7 s

/-- `WT26`: run value 26, 7 bits (R141). -/
def execWt26 (s : State) : Result := runTerm .white 26 7 s

/-- `WT27`: run value 27, 7 bits (R141). -/
def execWt27 (s : State) : Result := runTerm .white 27 7 s

/-- `WT28`: run value 28, 7 bits (R141). -/
def execWt28 (s : State) : Result := runTerm .white 28 7 s

/-- `WT29`: run value 29, 8 bits (R141). -/
def execWt29 (s : State) : Result := runTerm .white 29 8 s

/-- `WT30`: run value 30, 8 bits (R141). -/
def execWt30 (s : State) : Result := runTerm .white 30 8 s

/-- `WT31`: run value 31, 8 bits (R141). -/
def execWt31 (s : State) : Result := runTerm .white 31 8 s

/-- `WT32`: run value 32, 8 bits (R141). -/
def execWt32 (s : State) : Result := runTerm .white 32 8 s

/-- `WT33`: run value 33, 8 bits (R141). -/
def execWt33 (s : State) : Result := runTerm .white 33 8 s

/-- `WT34`: run value 34, 8 bits (R141). -/
def execWt34 (s : State) : Result := runTerm .white 34 8 s

/-- `WT35`: run value 35, 8 bits (R141). -/
def execWt35 (s : State) : Result := runTerm .white 35 8 s

/-- `WT36`: run value 36, 8 bits (R141). -/
def execWt36 (s : State) : Result := runTerm .white 36 8 s

/-- `WT37`: run value 37, 8 bits (R141). -/
def execWt37 (s : State) : Result := runTerm .white 37 8 s

/-- `WT38`: run value 38, 8 bits (R141). -/
def execWt38 (s : State) : Result := runTerm .white 38 8 s

/-- `WT39`: run value 39, 8 bits (R141). -/
def execWt39 (s : State) : Result := runTerm .white 39 8 s

/-- `WT40`: run value 40, 8 bits (R141). -/
def execWt40 (s : State) : Result := runTerm .white 40 8 s

/-- `WT41`: run value 41, 8 bits (R141). -/
def execWt41 (s : State) : Result := runTerm .white 41 8 s

/-- `WT42`: run value 42, 8 bits (R141). -/
def execWt42 (s : State) : Result := runTerm .white 42 8 s

/-- `WT43`: run value 43, 8 bits (R141). -/
def execWt43 (s : State) : Result := runTerm .white 43 8 s

/-- `WT44`: run value 44, 8 bits (R141). -/
def execWt44 (s : State) : Result := runTerm .white 44 8 s

/-- `WT45`: run value 45, 8 bits (R141). -/
def execWt45 (s : State) : Result := runTerm .white 45 8 s

/-- `WT46`: run value 46, 8 bits (R141). -/
def execWt46 (s : State) : Result := runTerm .white 46 8 s

/-- `WT47`: run value 47, 8 bits (R141). -/
def execWt47 (s : State) : Result := runTerm .white 47 8 s

/-- `WT48`: run value 48, 8 bits (R141). -/
def execWt48 (s : State) : Result := runTerm .white 48 8 s

/-- `WT49`: run value 49, 8 bits (R141). -/
def execWt49 (s : State) : Result := runTerm .white 49 8 s

/-- `WT50`: run value 50, 8 bits (R141). -/
def execWt50 (s : State) : Result := runTerm .white 50 8 s

/-- `WT51`: run value 51, 8 bits (R141). -/
def execWt51 (s : State) : Result := runTerm .white 51 8 s

/-- `WT52`: run value 52, 8 bits (R141). -/
def execWt52 (s : State) : Result := runTerm .white 52 8 s

/-- `WT53`: run value 53, 8 bits (R141). -/
def execWt53 (s : State) : Result := runTerm .white 53 8 s

/-- `WT54`: run value 54, 8 bits (R141). -/
def execWt54 (s : State) : Result := runTerm .white 54 8 s

/-- `WT55`: run value 55, 8 bits (R141). -/
def execWt55 (s : State) : Result := runTerm .white 55 8 s

/-- `WT56`: run value 56, 8 bits (R141). -/
def execWt56 (s : State) : Result := runTerm .white 56 8 s

/-- `WT57`: run value 57, 8 bits (R141). -/
def execWt57 (s : State) : Result := runTerm .white 57 8 s

/-- `WT58`: run value 58, 8 bits (R141). -/
def execWt58 (s : State) : Result := runTerm .white 58 8 s

/-- `WT59`: run value 59, 8 bits (R141). -/
def execWt59 (s : State) : Result := runTerm .white 59 8 s

/-- `WT60`: run value 60, 8 bits (R141). -/
def execWt60 (s : State) : Result := runTerm .white 60 8 s

/-- `WT61`: run value 61, 8 bits (R141). -/
def execWt61 (s : State) : Result := runTerm .white 61 8 s

/-- `WT62`: run value 62, 8 bits (R141). -/
def execWt62 (s : State) : Result := runTerm .white 62 8 s

/-- `WT63`: run value 63, 8 bits (R141). -/
def execWt63 (s : State) : Result := runTerm .white 63 8 s

/-! ## White makeup codes (R142) -/

/-- `WM64`: run value 64, 5 bits (R142). -/
def execWm64 (s : State) : Result := runMakeup .white 64 5 s

/-- `WM128`: run value 128, 5 bits (R142). -/
def execWm128 (s : State) : Result := runMakeup .white 128 5 s

/-- `WM192`: run value 192, 6 bits (R142). -/
def execWm192 (s : State) : Result := runMakeup .white 192 6 s

/-- `WM256`: run value 256, 7 bits (R142). -/
def execWm256 (s : State) : Result := runMakeup .white 256 7 s

/-- `WM320`: run value 320, 8 bits (R142). -/
def execWm320 (s : State) : Result := runMakeup .white 320 8 s

/-- `WM384`: run value 384, 8 bits (R142). -/
def execWm384 (s : State) : Result := runMakeup .white 384 8 s

/-- `WM448`: run value 448, 8 bits (R142). -/
def execWm448 (s : State) : Result := runMakeup .white 448 8 s

/-- `WM512`: run value 512, 8 bits (R142). -/
def execWm512 (s : State) : Result := runMakeup .white 512 8 s

/-- `WM576`: run value 576, 8 bits (R142). -/
def execWm576 (s : State) : Result := runMakeup .white 576 8 s

/-- `WM640`: run value 640, 8 bits (R142). -/
def execWm640 (s : State) : Result := runMakeup .white 640 8 s

/-- `WM704`: run value 704, 9 bits (R142). -/
def execWm704 (s : State) : Result := runMakeup .white 704 9 s

/-- `WM768`: run value 768, 9 bits (R142). -/
def execWm768 (s : State) : Result := runMakeup .white 768 9 s

/-- `WM832`: run value 832, 9 bits (R142). -/
def execWm832 (s : State) : Result := runMakeup .white 832 9 s

/-- `WM896`: run value 896, 9 bits (R142). -/
def execWm896 (s : State) : Result := runMakeup .white 896 9 s

/-- `WM960`: run value 960, 9 bits (R142). -/
def execWm960 (s : State) : Result := runMakeup .white 960 9 s

/-- `WM1024`: run value 1024, 9 bits (R142). -/
def execWm1024 (s : State) : Result := runMakeup .white 1024 9 s

/-- `WM1088`: run value 1088, 9 bits (R142). -/
def execWm1088 (s : State) : Result := runMakeup .white 1088 9 s

/-- `WM1152`: run value 1152, 9 bits (R142). -/
def execWm1152 (s : State) : Result := runMakeup .white 1152 9 s

/-- `WM1216`: run value 1216, 9 bits (R142). -/
def execWm1216 (s : State) : Result := runMakeup .white 1216 9 s

/-- `WM1280`: run value 1280, 9 bits (R142). -/
def execWm1280 (s : State) : Result := runMakeup .white 1280 9 s

/-- `WM1344`: run value 1344, 9 bits (R142). -/
def execWm1344 (s : State) : Result := runMakeup .white 1344 9 s

/-- `WM1408`: run value 1408, 9 bits (R142). -/
def execWm1408 (s : State) : Result := runMakeup .white 1408 9 s

/-- `WM1472`: run value 1472, 9 bits (R142). -/
def execWm1472 (s : State) : Result := runMakeup .white 1472 9 s

/-- `WM1536`: run value 1536, 9 bits (R142). -/
def execWm1536 (s : State) : Result := runMakeup .white 1536 9 s

/-- `WM1600`: run value 1600, 9 bits (R142). -/
def execWm1600 (s : State) : Result := runMakeup .white 1600 9 s

/-- `WM1664`: run value 1664, 6 bits (R142). -/
def execWm1664 (s : State) : Result := runMakeup .white 1664 6 s

/-- `WM1728`: run value 1728, 9 bits (R142). -/
def execWm1728 (s : State) : Result := runMakeup .white 1728 9 s

/-! ## Extended makeup codes in the white table (R143) -/

/-- `WX1792`: run value 1792, 11 bits (R143). -/
def execWx1792 (s : State) : Result := runMakeup .white 1792 11 s

/-- `WX1856`: run value 1856, 11 bits (R143). -/
def execWx1856 (s : State) : Result := runMakeup .white 1856 11 s

/-- `WX1920`: run value 1920, 11 bits (R143). -/
def execWx1920 (s : State) : Result := runMakeup .white 1920 11 s

/-- `WX1984`: run value 1984, 12 bits (R143). -/
def execWx1984 (s : State) : Result := runMakeup .white 1984 12 s

/-- `WX2048`: run value 2048, 12 bits (R143). -/
def execWx2048 (s : State) : Result := runMakeup .white 2048 12 s

/-- `WX2112`: run value 2112, 12 bits (R143). -/
def execWx2112 (s : State) : Result := runMakeup .white 2112 12 s

/-- `WX2176`: run value 2176, 12 bits (R143). -/
def execWx2176 (s : State) : Result := runMakeup .white 2176 12 s

/-- `WX2240`: run value 2240, 12 bits (R143). -/
def execWx2240 (s : State) : Result := runMakeup .white 2240 12 s

/-- `WX2304`: run value 2304, 12 bits (R143). -/
def execWx2304 (s : State) : Result := runMakeup .white 2304 12 s

/-- `WX2368`: run value 2368, 12 bits (R143). -/
def execWx2368 (s : State) : Result := runMakeup .white 2368 12 s

/-- `WX2432`: run value 2432, 12 bits (R143). -/
def execWx2432 (s : State) : Result := runMakeup .white 2432 12 s

/-- `WX2496`: run value 2496, 12 bits (R143). -/
def execWx2496 (s : State) : Result := runMakeup .white 2496 12 s

/-- `WX2560`: run value 2560, 12 bits (R143). -/
def execWx2560 (s : State) : Result := runMakeup .white 2560 12 s

/-! ## EOL in a white run (R144) -/

/-- `WEOL`: end of line in a white run (R144). -/
def execWeol (s : State) : Result := runEol .white 12 s

end Sys2Proof.Machine
end

