-- ==== Sys2Proof/Machine/Fetch.lean ====
section
/-! DEFINITION. Fetching: what the engine finds at the cursor in the table in force (spec/43_scanline.md R202,
spec/41_run_codes.md R140, spec/42_mode_codes.md R186), how a failed walk is reported
(spec/40_table_walk.md R124), and the placing of one code word for `State.withFetchWord`. -/

namespace Sys2Proof.Machine

/-- What the engine finds: nothing to do (IDLE, DONE), a code word, or a failed walk's error. -/
inductive Fetched where
  | waiting
  | instr (i : Instr)
  | error (e : ErrInfo)
  deriving DecidableEq, Repr

/-- R124, the INVALID row: `InvalidCode(CUR)` in a run table, `InvalidModeCode(CUR)` in the mode table. -/
def invalidError (t : Table) (cur : Nat) : ErrInfo :=
  match t with
  | .white => .invalidCode cur
  | .black => .invalidCode cur
  | .mode => .invalidModeCode cur

/-- What stands at the cursor in table `t`. -/
def fetchIn (t : Table) (s : State) : Fetched :=
  match decode t (remaining s) with
  | .code i _ => .instr i
  | .eod => .error (.unexpectedEndOfData s.cur)
  | .invalid => .error (invalidError t s.cur)

/-- The engine's fetch. -/
def fetch (s : State) : Fetched :=
  match currentTable s with
  | none => .waiting
  | some t => fetchIn t s

/-! ## Placing one code word -/

/-- The stream with a 13-bit window at the cursor, nothing after it. -/
def State.placeWindow (w : Nat) (s : State) : State :=
  { s with mem := { s.mem with stream := padded s.cur s.mem.stream ++ windowBits w } }

/-- The run colour a table is read with; White for the mode table, as at a line's start (R201). -/
def Table.startColor : Table → Color
  | .white => .white
  | .black => .black
  | .mode => .white

/-- A command in progress at the cursor that reads table `t` next, as START leaves one (R200): width 64,
reference line [8, 8, 48]; for the black table a 1D line after its zero White run (DESIGN CHOICE, log 9). -/
def State.commandFor (t : Table) (s : State) : State :=
  { s with
    phase := if t = .mode then .mode2D else .run1D
    cmode := if t = .mode then .group4 else .group3_1D
    color := Table.startColor t
    runs := if t = .black then [0] else []
    width := 64
    refLine := [8, 8, 48]
    a0 := -1
    rs := 0
    racc := 0
    outCur := 0
    outCount := 0
    errOffset := 0
    errAcc := 0
    errExp := 0
    kind := .line
    err := .none
    doneSeen := false }

/-- The state in which the very next step reads the window `w`. -/
def State.placeFetch (w : Nat) (s : State) : State :=
  let s' := { s.placeWindow w with hostQueue := [] }
  if currentTable s' = some (tableOfWindow w) then s' else s'.commandFor (tableOfWindow w)

end Sys2Proof.Machine
end

