-- ==== Sys2Proof/Machine/HostPort.lean ====
section
/-! DEFINITION. What the host does between two engine steps: register writes and reads with the access
rights of spec/10_state.md R37, the strobes START, ACK and ABORT (R33, spec/43_scanline.md R200, R215,
R216), reset (spec/70_reset_and_hazards.md R270) and loading a stream (R273). A broken host duty of R278
is a refusal by name. -/

namespace Sys2Proof.Machine

/-! ## START -/

/-- START's conditions on the scalar inputs (R33, R273, R9, R152, R28, R8, R30): the first that fails. W is one of
the values R152 bounds by `2^P_ACC_BITS − 1`. DESIGN CHOICE (log 28): the order of the checks. -/
def startRefusal (s : State) : Option Refusal :=
  if ¬(s.phase = .idle ∨ s.phase = .done) then some .strobeNotAccepted
  else if ¬(s.inWritten.cur = true ∧ s.inWritten.width = true ∧ s.inWritten.mode = true) then
    some .inputNotWritten
  else if ¬(1 ≤ s.inWidth ∧ s.inWidth ≤ s.params.maxWidth ∧ s.inWidth < 2 ^ s.params.accBits) then
    some .widthNotAdmitted
  else if ¬(s.inCur ≤ s.mem.stream.length) then some .cursorPastEnd
  else if ¬(s.mem.stream.length < 2 ^ s.params.curBits) then some .streamTooLong
  else if ¬(s.inRefCount ≤ s.params.maxRuns) then some .referenceTooLong
  else none

/-- What a `Group3_1D` START latches into REF, which no step of such a command reads (R30): a cell never
written since reset gives a free value (log 7). -/
def latchedRef1D (s : State) : List Nat :=
  (List.range s.inRefCount).map fun i => (readCell i s.mem.inRef).getD (Config.freeCell s.freeIndex i)

/-- START in a 2D mode: IN_REF is written, and well formed for W (R9, R31, R273). -/
def start2D (mode : CodingMode) (s : State) : Result :=
  if s.inWritten.refCount = true then
    match readCells s.inRefCount 0 s.mem.inRef with
    | some ref =>
      if refWellFormed ref s.inWidth = true then .next (s.startCommand mode ref)
      else .refused .referenceIllFormed
    | none => .refused .inputNotWritten
  else .refused .inputNotWritten

/-- START (R200): with a command outside R9, or outside IDLE and DONE, it is refused. -/
def strobeStart (s : State) : Result :=
  match startRefusal s with
  | some r => .refused r
  | none =>
    match modeOfBits s.inMode with
    | none => .refused .reservedMode
    | some .group3_1D => .next (s.startCommand .group3_1D (latchedRef1D s))
    | some .group3_2D => start2D .group3_2D s
    | some .group4 => start2D .group4 s

/-- ACK, accepted only in DONE (R33, R215). -/
def strobeAck (s : State) : Result :=
  if s.phase = .done then .next s.ackDone else .refused .strobeNotAccepted

/-! ## Register writes (R32, R37) -/

/-- A value into a register of `bits` bits, or a refusal. -/
def writeFitting (ok : Bool) (s' : State) : Result :=
  if ok = true then .next s' else .refused .valueTooWide

/-- A host write. Only the input registers are writable, and only while BUSY = 0 (R37, R278 a). DESIGN CHOICE: a
write to a read-only register is refused, not ignored (log 27), and IN_REF_COUNT takes 0 to P_MAX_RUNS, a
larger write refused when it is written (log 14). -/
def hostWrite (r : HostReg) (v : Nat) (s : State) : Result :=
  if s.busy = true then .refused .writeWhileBusy
  else
    match r with
    | .inCur =>
      writeFitting (decide (v < 2 ^ s.params.curBits))
        { s with inCur := v, inWritten := { s.inWritten with cur := true } }
    | .inWidth => .next { s with inWidth := v, inWritten := { s.inWritten with width := true } }
    | .inMode =>
      writeFitting (decide (v < 4))
        { s with inMode := BitVec.ofNat 2 v, inWritten := { s.inWritten with mode := true } }
    | .inRef i =>
      if i < s.params.maxRuns then .next { s with mem := { s.mem with inRef := writeCell i v s.mem.inRef } }
      else .fault .noSuchCell
    | .inRefCount =>
      writeFitting (decide (v ≤ s.params.maxRuns))
        { s with inRefCount := v, inWritten := { s.inWritten with refCount := true } }
    | .status => .refused .readOnlyRegister
    | .outCur => .refused .readOnlyRegister
    | .outCount => .refused .readOnlyRegister
    | .outRuns _ => .refused .readOnlyRegister
    | .errOffset => .refused .readOnlyRegister
    | .errAcc => .refused .readOnlyRegister
    | .errExp => .refused .readOnlyRegister

/-! ## Register reads (R37) -/

/-- The value on the read port. Where the spec says `any value` (an input register or cell never written
since reset, OUT_RUNS[i] for i ≥ OUT_COUNT) it is a free value of the register's type (log 6; for
IN_REF_COUNT 0 to P_MAX_RUNS, log 14). -/
def hostValue (r : HostReg) (s : State) : Nat :=
  match r with
  | .inCur =>
    if s.inWritten.cur = true then s.inCur else Config.freeRead s.freeIndex % 2 ^ s.params.curBits
  | .inWidth => if s.inWritten.width = true then s.inWidth else Config.freeRead s.freeIndex
  | .inMode => if s.inWritten.mode = true then s.inMode.toNat else Config.freeRead s.freeIndex % 4
  | .inRef i => (readCell i s.mem.inRef).getD (Config.freeRead s.freeIndex)
  | .inRefCount =>
    if s.inWritten.refCount = true then s.inRefCount
    else Config.freeRead s.freeIndex % (s.params.maxRuns + 1)
  | .status => (statusWord s).toNat
  | .outCur => s.outCur
  | .outCount => s.outCount
  | .outRuns i =>
    if i < s.outCount then (readOutRun s.mem i).getD (Config.freeRead s.freeIndex)
    else Config.freeRead s.freeIndex
  | .errOffset => s.errOffset
  | .errAcc => s.errAcc
  | .errExp => s.errExp

/-- Whether a register is a cell of a run buffer that does not exist (R60). -/
def noSuchReg (r : HostReg) (s : State) : Bool :=
  match r with
  | .inRef i => decide (s.params.maxRuns ≤ i)
  | .outRuns i => decide (s.params.maxRuns ≤ i)
  | _ => false

/-- The result and error registers (R35, R36). -/
def HostReg.isResult : HostReg → Bool
  | .inCur => false
  | .inWidth => false
  | .inMode => false
  | .inRef _ => false
  | .inRefCount => false
  | .status => false
  | .outCur => true
  | .outCount => true
  | .outRuns _ => true
  | .errOffset => true
  | .errAcc => true
  | .errExp => true

/-- A read of STATUS that shows `DONE = 1`. -/
def showsDone (r : HostReg) (s : State) : Bool := r == .status && s.isDone

/-- After a read: its value on the read port, no register changed (R70), and the model's note of what the host
has seen (log 20). -/
def State.answerRead (r : HostReg) (s : State) : State :=
  { s with readData := hostValue r s, doneSeen := s.doneSeen || showsDone r s }

/-- A host read. A result or error register is read only in DONE and only after the host has seen
`STATUS.DONE = 1` (R278 d, spec/93_implementation_defined.md A15, log 20). -/
def hostRead (r : HostReg) (s : State) : Result :=
  if noSuchReg r s = true then .fault .noSuchCell
  else if r.isResult = true ∧ ¬(s.phase = .done ∧ s.doneSeen = true) then .refused .resultNotValid
  else .next (s.answerRead r)

/-! ## The stream (R66, R273, R278 b) -/

/-- The stream bits of a byte buffer, in the order FILL_ORDER gives. -/
def streamOfBytes (f : FillOrder) (bytes : List Byte) : Bits := bytes.flatMap (byteBits f)

/-- The host makes a stream readable (R273): the first `n` bits of the buffer's stream bits. DESIGN CHOICE
(log 30): the spec leaves to the host how N follows from the bytes; here N is `n`, or all of the buffer's
bits where `n` is more than 8 times its bytes. -/
def loadStream (bytes : List Byte) (n : Nat) (s : State) : Result :=
  if s.busy = true then .refused .streamWhileBusy
  else .next { s with mem := { s.mem with stream := (streamOfBytes s.params.fillOrder bytes).take n } }

/-! ## One host action -/

/-- The host's action, already taken off the queue. `yield` changes nothing here: `step` then lets the
engine take its step. -/
def hostAct (a : HostAction) (s : State) : Result :=
  match a with
  | .yield => .next s
  | .write r v => hostWrite r v s
  | .read r => hostRead r s
  | .start => strobeStart s
  | .ack => strobeAck s
  | .abort => .next s.abort
  | .reset => .next s.resetNow
  | .loadStream bytes n => loadStream bytes n s

/-- Take the oldest action off the queue; `freeIndex` moves on with every action. -/
def State.popAction (s : State) : State :=
  { s with hostQueue := s.hostQueue.tail, freeIndex := s.freeIndex + 1 }

end Sys2Proof.Machine
end

