-- ==== Sys2Proof/Machine/Step.lean ====
section
/-! DEFINITION. One step of the machine: the host's next action if it has one queued, else one engine step
(spec/10_state.md R20, spec/43_scanline.md R202, R216). -/

namespace Sys2Proof.Machine

/-- One engine step (R202): execute the code word at the cursor, or end the command with the failed walk's
error (R124); in IDLE and DONE nothing happens (R271). -/
def engineStep (s : State) : Result :=
  match fetch s with
  | .waiting => .next s
  | .instr i => exec i s
  | .error e => .next (s.raise e)

/-- One step of the machine. -/
def step (s : State) : Host.Outcome State Fault Refusal :=
  match s.hostQueue with
  | [] => engineStep s
  | a :: _ => if a = .yield then engineStep s.popAction else hostAct a s.popAction

/-- `s` with the table's window `w` where the next step reads its code word (log 3, 8, 9). -/
def State.withFetchWord (s : State) (_nbits w : Nat) : State := s.placeFetch w

end Sys2Proof.Machine
end

