-- ==== Sys2Proof/Machine/DecodeLine.lean ====
section
/-! DEFINITION. The functional view of a command (spec/43_scanline.md R217): `DecodeLine(S, cur, ref, W, mode)`
is START followed by engine steps until DONE. -/

namespace Sys2Proof.Machine

/-- An outcome with its result registers (R211 to R213, R217). -/
inductive LineOutcome where
  | line (runs : List Nat) (cur : Nat)
  | eos (runs : List Nat) (cur : Nat)
  | error (e : ErrInfo) (cur : Nat)
  deriving DecidableEq, Repr

/-- What `DecodeLine` answers: an outcome, a refused command, or no outcome within the step bound. -/
inductive LineAnswer where
  | outcome (o : LineOutcome)
  | refused (r : Refusal)
  | fault (f : Fault)
  | unfinished
  deriving DecidableEq, Repr

/-- The error a DONE state reports, from its registers (R240). -/
def reportedError (s : State) : Option ErrInfo :=
  match s.err with
  | .none => none
  | .invalidCode => some (.invalidCode s.errOffset)
  | .invalidModeCode => some (.invalidModeCode s.errOffset)
  | .runOverflow => some (.runOverflow s.errAcc s.errExp)
  | .unexpectedEndOfData => some (.unexpectedEndOfData s.errOffset)

/-- `OUT_RUNS[0 .. OUT_COUNT−1]` (R35). -/
def resultRuns (s : State) : List Nat := s.mem.outRuns.take s.outCount

/-- The outcome a DONE state holds (R35, R36, R241). -/
def lineAnswer (s : State) : LineAnswer :=
  if s.phase = .done then
    match s.kind with
    | .line => .outcome (.line (resultRuns s) s.outCur)
    | .eos => .outcome (.eos (resultRuns s) s.outCur)
    | .error =>
      match reportedError s with
      | some e => .outcome (.error e s.outCur)
      | none => .unfinished
  else .unfinished

/-- At most `n` engine steps, stopping when no command is in progress. -/
def runCommand : Nat → State → Result
  | 0, s => .next s
  | n + 1, s => if s.busy = true then andThen (engineStep s) (runCommand n) else .next s

/-- The cells of a written IN_REF. -/
def cellsOf (i : Nat) : List Nat → Cells
  | [] => []
  | v :: rest => (i, v) :: cellsOf (i + 1) rest

/-- A fresh engine whose host has written the inputs and supplied the stream (R273). -/
def commandInputs (p : Params) (S : Bits) (cur : Nat) (ref : List Nat) (width : Nat)
    (mode : CodingMode) : State :=
  { State.reset with
    params := p
    mem := { stream := S, inRef := cellsOf 0 ref, outRuns := [] }
    inCur := cur
    inWidth := width
    inMode := BitVec.ofNat 2 mode.code
    inRefCount := ref.length
    inWritten := { cur := true, width := true, mode := true, refCount := true } }

/-- `DecodeLine` (R217), with the step bound of R214. -/
def decodeLine (p : Params) (S : Bits) (cur : Nat) (ref : List Nat) (width : Nat)
    (mode : CodingMode) : LineAnswer :=
  match andThen (strobeStart (commandInputs p S cur ref width mode)) (runCommand (S.length - cur + 1)) with
  | .next s => lineAnswer s
  | .fault f => .fault f
  | .refused r => .refused r

end Sys2Proof.Machine
end

