-- ==== Sys2Proof/Machine/Assembler.lean ====
section
/-! DEFINITION. The assembler of spec/30_encoding.md R102 and R103: mnemonics, literal bits, and the
pseudo-instructions W(n), B(n), HORIZ and EOFB. The decoder never sees a pseudo-instruction. -/

namespace Sys2Proof.Machine

/-- The mnemonic of a code word, as the opcode table spells it (R101, R102). -/
def mnemonic : Instr → String
  | .wt0 => "WT0"
  | .wt1 => "WT1"
  | .wt2 => "WT2"
  | .wt3 => "WT3"
  | .wt4 => "WT4"
  | .wt5 => "WT5"
  | .wt6 => "WT6"
  | .wt7 => "WT7"
  | .wt8 => "WT8"
  | .wt9 => "WT9"
  | .wt10 => "WT10"
  | .wt11 => "WT11"
  | .wt12 => "WT12"
  | .wt13 => "WT13"
  | .wt14 => "WT14"
  | .wt15 => "WT15"
  | .wt16 => "WT16"
  | .wt17 => "WT17"
  | .wt18 => "WT18"
  | .wt19 => "WT19"
  | .wt20 => "WT20"
  | .wt21 => "WT21"
  | .wt22 => "WT22"
  | .wt23 => "WT23"
  | .wt24 => "WT24"
  | .wt25 => "WT25"
  | .wt26 => "WT26"
  | .wt27 => "WT27"
  | .wt28 => "WT28"
  | .wt29 => "WT29"
  | .wt30 => "WT30"
  | .wt31 => "WT31"
  | .wt32 => "WT32"
  | .wt33 => "WT33"
  | .wt34 => "WT34"
  | .wt35 => "WT35"
  | .wt36 => "WT36"
  | .wt37 => "WT37"
  | .wt38 => "WT38"
  | .wt39 => "WT39"
  | .wt40 => "WT40"
  | .wt41 => "WT41"
  | .wt42 => "WT42"
  | .wt43 => "WT43"
  | .wt44 => "WT44"
  | .wt45 => "WT45"
  | .wt46 => "WT46"
  | .wt47 => "WT47"
  | .wt48 => "WT48"
  | .wt49 => "WT49"
  | .wt50 => "WT50"
  | .wt51 => "WT51"
  | .wt52 => "WT52"
  | .wt53 => "WT53"
  | .wt54 => "WT54"
  | .wt55 => "WT55"
  | .wt56 => "WT56"
  | .wt57 => "WT57"
  | .wt58 => "WT58"
  | .wt59 => "WT59"
  | .wt60 => "WT60"
  | .wt61 => "WT61"
  | .wt62 => "WT62"
  | .wt63 => "WT63"
  | .wm64 => "WM64"
  | .wm128 => "WM128"
  | .wm192 => "WM192"
  | .wm256 => "WM256"
  | .wm320 => "WM320"
  | .wm384 => "WM384"
  | .wm448 => "WM448"
  | .wm512 => "WM512"
  | .wm576 => "WM576"
  | .wm640 => "WM640"
  | .wm704 => "WM704"
  | .wm768 => "WM768"
  | .wm832 => "WM832"
  | .wm896 => "WM896"
  | .wm960 => "WM960"
  | .wm1024 => "WM1024"
  | .wm1088 => "WM1088"
  | .wm1152 => "WM1152"
  | .wm1216 => "WM1216"
  | .wm1280 => "WM1280"
  | .wm1344 => "WM1344"
  | .wm1408 => "WM1408"
  | .wm1472 => "WM1472"
  | .wm1536 => "WM1536"
  | .wm1600 => "WM1600"
  | .wm1664 => "WM1664"
  | .wm1728 => "WM1728"
  | .wx1792 => "WX1792"
  | .wx1856 => "WX1856"
  | .wx1920 => "WX1920"
  | .wx1984 => "WX1984"
  | .wx2048 => "WX2048"
  | .wx2112 => "WX2112"
  | .wx2176 => "WX2176"
  | .wx2240 => "WX2240"
  | .wx2304 => "WX2304"
  | .wx2368 => "WX2368"
  | .wx2432 => "WX2432"
  | .wx2496 => "WX2496"
  | .wx2560 => "WX2560"
  | .weol => "WEOL"
  | .bt0 => "BT0"
  | .bt1 => "BT1"
  | .bt2 => "BT2"
  | .bt3 => "BT3"
  | .bt4 => "BT4"
  | .bt5 => "BT5"
  | .bt6 => "BT6"
  | .bt7 => "BT7"
  | .bt8 => "BT8"
  | .bt9 => "BT9"
  | .bt10 => "BT10"
  | .bt11 => "BT11"
  | .bt12 => "BT12"
  | .bt13 => "BT13"
  | .bt14 => "BT14"
  | .bt15 => "BT15"
  | .bt16 => "BT16"
  | .bt17 => "BT17"
  | .bt18 => "BT18"
  | .bt19 => "BT19"
  | .bt20 => "BT20"
  | .bt21 => "BT21"
  | .bt22 => "BT22"
  | .bt23 => "BT23"
  | .bt24 => "BT24"
  | .bt25 => "BT25"
  | .bt26 => "BT26"
  | .bt27 => "BT27"
  | .bt28 => "BT28"
  | .bt29 => "BT29"
  | .bt30 => "BT30"
  | .bt31 => "BT31"
  | .bt32 => "BT32"
  | .bt33 => "BT33"
  | .bt34 => "BT34"
  | .bt35 => "BT35"
  | .bt36 => "BT36"
  | .bt37 => "BT37"
  | .bt38 => "BT38"
  | .bt39 => "BT39"
  | .bt40 => "BT40"
  | .bt41 => "BT41"
  | .bt42 => "BT42"
  | .bt43 => "BT43"
  | .bt44 => "BT44"
  | .bt45 => "BT45"
  | .bt46 => "BT46"
  | .bt47 => "BT47"
  | .bt48 => "BT48"
  | .bt49 => "BT49"
  | .bt50 => "BT50"
  | .bt51 => "BT51"
  | .bt52 => "BT52"
  | .bt53 => "BT53"
  | .bt54 => "BT54"
  | .bt55 => "BT55"
  | .bt56 => "BT56"
  | .bt57 => "BT57"
  | .bt58 => "BT58"
  | .bt59 => "BT59"
  | .bt60 => "BT60"
  | .bt61 => "BT61"
  | .bt62 => "BT62"
  | .bt63 => "BT63"
  | .bm64 => "BM64"
  | .bm128 => "BM128"
  | .bm192 => "BM192"
  | .bm256 => "BM256"
  | .bm320 => "BM320"
  | .bm384 => "BM384"
  | .bm448 => "BM448"
  | .bm512 => "BM512"
  | .bm576 => "BM576"
  | .bm640 => "BM640"
  | .bm704 => "BM704"
  | .bm768 => "BM768"
  | .bm832 => "BM832"
  | .bm896 => "BM896"
  | .bm960 => "BM960"
  | .bm1024 => "BM1024"
  | .bm1088 => "BM1088"
  | .bm1152 => "BM1152"
  | .bm1216 => "BM1216"
  | .bm1280 => "BM1280"
  | .bm1344 => "BM1344"
  | .bm1408 => "BM1408"
  | .bm1472 => "BM1472"
  | .bm1536 => "BM1536"
  | .bm1600 => "BM1600"
  | .bm1664 => "BM1664"
  | .bm1728 => "BM1728"
  | .bx1792 => "BX1792"
  | .bx1856 => "BX1856"
  | .bx1920 => "BX1920"
  | .bx1984 => "BX1984"
  | .bx2048 => "BX2048"
  | .bx2112 => "BX2112"
  | .bx2176 => "BX2176"
  | .bx2240 => "BX2240"
  | .bx2304 => "BX2304"
  | .bx2368 => "BX2368"
  | .bx2432 => "BX2432"
  | .bx2496 => "BX2496"
  | .bx2560 => "BX2560"
  | .beol => "BEOL"
  | .p => "P"
  | .h => "H"
  | .v0 => "V0"
  | .vr1 => "VR1"
  | .vr2 => "VR2"
  | .vr3 => "VR3"
  | .vl1 => "VL1"
  | .vl2 => "VL2"
  | .vl3 => "VL3"
  | .ext => "EXT"
  | .eol => "EOL"

/-- The code word of run value `v` in the run table of colour `c` (R92 to R94). -/
def codeOfRun (c : Color) (v : Nat) : Option Instr :=
  ((codeRows (Table.ofColor c)).find? (fun row => row.value == v)).map CodeRow.instr

/-- The last codes of an expansion, for n below 2624: a makeup code if n ≥ 64, then a terminating code. -/
def expandTail (n : Nat) : List Nat :=
  if 64 ≤ n then [64 * (n / 64), n % 64] else [n % 64]

/-- R103's loop: extended makeup 2560 while n ≥ 2624. `fuel` bounds the turns; n turns are always enough. -/
def expandLoop : Nat → Nat → List Nat
  | 0, n => expandTail n
  | fuel + 1, n => if 2624 ≤ n then 2560 :: expandLoop fuel (n - 2560) else expandTail n

/-- The run values of `expand(color, n)` (R103). -/
def expandValues (n : Nat) : List Nat := expandLoop n n

/-- `expand(color, n)` (R103): the canonical code words of a run of length n. -/
def expandRun (c : Color) (n : Nat) : List Instr := (expandValues n).filterMap (codeOfRun c)

/-- One item of a code-word program (R102, R103). -/
inductive AsmItem where
  | code (i : Instr)
  | bits (b : Bits)
  | run (c : Color) (n : Nat)
  | horiz (c : Color) (m1 m2 : Nat)
  | eofb
  deriving DecidableEq, Repr

/-- The code words a list of instructions encodes to. -/
def encodeAll (p : List Instr) : Bits := p.flatMap encode

/-- The code words of a pseudo-instruction (R103); literal bits stand for themselves. -/
def assembleItem : AsmItem → Bits
  | .code i => encode i
  | .bits b => b
  | .run c n => encodeAll (expandRun c n)
  | .horiz c m1 m2 => encodeAll (.h :: expandRun c m1 ++ expandRun c.flip m2)
  | .eofb => encodeAll [.eol, .eol]

/-- The stream of a program. -/
def assemble (p : List AsmItem) : Bits := p.flatMap assembleItem

/-! ## Program text (R102) -/

/-- Drop the comments: from `;` to the end of the line (DESIGN CHOICE: wherever the `;` stands, log 25). -/
def dropComments : Bool → List Char → List Char
  | _, [] => []
  | inside, ch :: rest =>
    if ch = '\n' then ch :: dropComments false rest
    else if inside then dropComments true rest
    else if ch = ';' then dropComments true rest
    else ch :: dropComments false rest

/-- The whitespace-separated words of a text; `acc` is the word being read. DESIGN CHOICE (log 25): whitespace
is the space, the tab and the newline; R102 does not list the characters. -/
def splitWords (acc : List Char) : List Char → List (List Char)
  | [] => if acc.isEmpty then [] else [acc]
  | ch :: rest =>
    if ch = ' ' ∨ ch = '\n' ∨ ch = '\t' then
      if acc.isEmpty then splitWords [] rest else acc :: splitWords [] rest
    else splitWords (acc ++ [ch]) rest

/-- `bits]`, the inside of a literal. DESIGN CHOICE (log 25): `[]` is no bits; R102 does not say whether a
literal may be empty. -/
def parseBits : List Char → Option Bits
  | [']'] => some []
  | '0' :: rest => (parseBits rest).map (false :: ·)
  | '1' :: rest => (parseBits rest).map (true :: ·)
  | _ => none

/-- `digits)`, the inside of W(n) and B(n), in decimal. DESIGN CHOICE (log 25): no digits read as 0, so `W()`
is `W(0)`; R103 gives no empty form. -/
def parseNumber (acc : Nat) : List Char → Option Nat
  | [')'] => some acc
  | ch :: rest => if ch.isDigit then parseNumber (10 * acc + (ch.toNat - 48)) rest else none
  | [] => none

/-- A mnemonic, searched in the three code sets. -/
def parseMnemonic (word : List Char) : Option Instr :=
  ((codeRows .white ++ codeRows .black ++ codeRows .mode).find?
    (fun row => (mnemonic row.instr).toList == word)).map CodeRow.instr

/-- One word of a program. HORIZ has no spelling of its colour in the spec and is written as an item. -/
def parseWord (word : List Char) : Option AsmItem :=
  match word with
  | '[' :: rest => (parseBits rest).map .bits
  | 'W' :: '(' :: rest => (parseNumber 0 rest).map (.run .white)
  | 'B' :: '(' :: rest => (parseNumber 0 rest).map (.run .black)
  | ['E', 'O', 'F', 'B'] => some .eofb
  | _ => (parseMnemonic word).map .code

/-- A program's items from its words, if every word is one. -/
def parseWords : List (List Char) → Option (List AsmItem)
  | [] => some []
  | word :: rest =>
    match parseWord word, parseWords rest with
    | some item, some items => some (item :: items)
    | _, _ => none

/-- A program's items from its text. -/
def parseProgram (text : List Char) : Option (List AsmItem) :=
  parseWords (splitWords [] (dropComments false text))

end Sys2Proof.Machine
end

