-- ==== Sys2Proof/Machine/Rom.lean ====
section
/-! DEFINITION. The ROM images and the table walk, twice as the spec has it: `walk` over the code sets
(spec/40_table_walk.md R120, the normative meaning) and `romWalk` over the ROMs that `Gen` makes
(spec/30_encoding.md R104 to R110, spec/40_table_walk.md R123); and the classification of a walk's value
(spec/41_run_codes.md R140, R151, spec/42_mode_codes.md R186, R188). The ROMs are constant (R41), so they
are functions of the index and no part of State (log 13). -/

namespace Sys2Proof.Machine

/-- A ROM entry (R104): `nextState` 0 at a terminal, else where a continuation block starts. -/
structure TableEntry where
  nextState : Nat
  bitWidth : Nat
  runValue : Nat
  deriving DecidableEq, Repr

/-- `(0, 0, 0)`: "a zero/width-zero terminal is the *only* defined failure signal" (R104). -/
def invalidEntry : TableEntry := ⟨0, 0, 0⟩

/-- The terminal entry of a row. -/
def entryOf (r : CodeRow) : TableEntry := ⟨0, r.width, r.value⟩

/-- `s` is an indirect node: no code word of at most `w` bits is a prefix of it, and it is a prefix of a
longer one (R105). -/
def isIndirect (rows : List CodeRow) (w i : Nat) : Bool :=
  !(rows.any fun row => decide (row.width ≤ w) && row.word.isPrefixOf (toBits w i))
    && rows.any fun row => decide (w < row.width) && (toBits w i).isPrefixOf row.word

/-- The indirect nodes below `n`, in index order. -/
def indirectNodes (rows : List CodeRow) (w n : Nat) : List Nat :=
  (List.range n).filter (isIndirect rows w)

/-- `Gen(C, w, x)` (R105) at one index; none past the end of the ROM. -/
def genEntry (rows : List CodeRow) (w x idx : Nat) : Option TableEntry :=
  if idx < 2 ^ w then
    match rows.find? (fun row => decide (row.width ≤ w) && row.word.isPrefixOf (toBits w idx)) with
    | some row => some (entryOf row)
    | none =>
      if isIndirect rows w idx then
        some ⟨2 ^ w + (indirectNodes rows w idx).length * 2 ^ x, 0, 0⟩
      else some invalidEntry
  else
    match (indirectNodes rows w (2 ^ w))[(idx - 2 ^ w) / 2 ^ x]? with
    | some i =>
      match rows.find? (fun row =>
          row.word.isPrefixOf (toBits w i ++ toBits x ((idx - 2 ^ w) % 2 ^ x))) with
      | some row => some (entryOf row)
      | none => some invalidEntry
    | none => none

/-- WROM, BROM and MROM (R106 to R108) at one index. -/
def romEntry (t : Table) (idx : Nat) : Option TableEntry :=
  genEntry (codeRows t) t.window t.followOn idx

/-- The number of entries of a table's ROM (R63 to R65, R108). -/
def romSize : Table → Nat
  | .white => 4096
  | .black => 8192
  | .mode => 160

/-- A walk's result (R120). -/
inductive WalkResult where
  | matched (width value : Nat)
  | eod
  | invalid
  deriving DecidableEq, Repr

/-- `Walk(T)` over the code set (R120): the decoder's own search, answering the width and the value. -/
def walk (t : Table) (bits : Bits) : WalkResult :=
  let r := bits.take t.maxLen
  match (codeRows t).find? (fun row => row.word.isPrefixOf r) with
  | some row => .matched row.width row.value
  | none =>
    if (codeRows t).any (fun row => r.isPrefixOf row.word && decide (r.length < row.width)) then .eod
    else .invalid

/-- The index a hop forms (R123): `next_state + j`, j the `X_T` bits after the first `WIN_T`. -/
def hopIndex (t : Table) (bits : Bits) (next : Nat) : Nat :=
  next + (peekBits (t.window + t.followOn) bits).toNat % 2 ^ t.followOn

/-- The loop of R123: follow indirect nodes, at most `fuel` of them; none on one hop more. -/
def followHops (t : Table) (bits : Bits) : Nat → TableEntry → Option TableEntry
  | fuel, e =>
    if e.nextState = 0 then some e
    else
      match fuel with
      | 0 => none
      | k + 1 =>
        match romEntry t (hopIndex t bits e.nextState) with
        | some e' => followHops t bits k e'
        | none => none

/-- The end-of-data test of R122 and R123 on the real remaining bits. -/
def endOfData (t : Table) (bits : Bits) : Bool :=
  decide (bits.length < t.maxLen)
    && (bits.isPrefixOf (encode .eol) || !(List.replicate t.zeros false).isPrefixOf bits)

/-- `RomWalk(T)` (R123) at the remaining bits. An index outside the ROM, which `Gen`'s ROMs never form
(R125), ends the walk as INVALID. -/
def romWalk (t : Table) (bits : Bits) : WalkResult :=
  match romEntry t (peekBits t.window bits).toNat with
  | none => .invalid
  | some e =>
    match followHops t bits 2 e with
    | none => .invalid
    | some e =>
      if e.bitWidth ≠ 0 then
        if e.bitWidth ≤ bits.length then .matched e.bitWidth e.runValue else .eod
      else if endOfData t bits then .eod
      else .invalid

/-! ## The value of a walk -/

/-- The cases of R140 on a run table's value. -/
inductive RunClass where
  | eol
  | term
  | makeup
  | extended
  | nonConforming
  deriving DecidableEq, Repr

/-- R140's tests, in its order: EOL_MARK first, then terminating, makeup, extended makeup, else R151. -/
def classifyRun (v : Nat) : RunClass :=
  if v = eolMark then .eol
  else if v ≤ 63 then .term
  else if v % 64 = 0 ∧ 64 ≤ v ∧ v ≤ 1728 then .makeup
  else if v % 64 = 0 ∧ 1792 ≤ v ∧ v ≤ 2560 then .extended
  else .nonConforming

/-- The mode code of a value, 1..11 (R109, R186); none otherwise (R188). -/
def modeOfValue (v : Nat) : Option Instr :=
  match v with
  | 1 => some .p
  | 2 => some .h
  | 3 => some .v0
  | 4 => some .vr1
  | 5 => some .vr2
  | 6 => some .vr3
  | 7 => some .vl1
  | 8 => some .vl2
  | 9 => some .vl3
  | 10 => some .ext
  | 11 => some .eol
  | _ => none

/-- The instruction a walk's value stands for in a table; none for a non-conforming value (R151, R188). -/
def instrOfValue (t : Table) (v : Nat) : Option Instr :=
  match t with
  | .mode => modeOfValue v
  | .white =>
    if classifyRun v = .nonConforming then none
    else ((codeRows .white).find? (fun row => row.value == v)).map CodeRow.instr
  | .black =>
    if classifyRun v = .nonConforming then none
    else ((codeRows .black).find? (fun row => row.value == v)).map CodeRow.instr

/-- What the engine finds at the cursor by the ROM algorithm: `RomWalk`, then the value's classification;
a non-conforming value is reported as INVALID is, with nothing consumed (R151, R188). -/
def romDecode (t : Table) (bits : Bits) : Decoded :=
  match romWalk t bits with
  | .matched w v =>
    match instrOfValue t v with
    | some i => .code i (bits.drop w)
    | none => .invalid
  | .eod => .eod
  | .invalid => .invalid

end Sys2Proof.Machine
end

