-- ==== Sys2Proof/Safety.lean ====
section
/-! DEFINITION. The terms claims are made in: the invariant of the machine (spec/10_state.md R42 and the register
ranges of R21 to R36), the parameter bounds of spec/00_scope.md R9, the states a command ends in, and the
code words listed by class with their values and widths (spec/30_encoding.md R92 to R96). -/

namespace Sys2Proof.Safety

open Sys2Proof.Machine

/-! ## Bounds of R9 -/

/-- The cursor after `w` more bits is a P_CUR_BITS value. -/
abbrev FitsCur (w : Nat) (s : State) : Prop := s.cur + w < 2 ^ s.params.curBits

/-- `v` is a P_ACC_BITS value. -/
abbrev FitsAcc (v : Nat) (s : State) : Prop := v < 2 ^ s.params.accBits

/-- The output run buffer has room for one more run. -/
abbrev RoomForRun (s : State) : Prop := s.runs.length < s.params.maxRuns

/-! ## The state a command ends in -/

/-- `s`, ended with outcome `k`: OUT_CUR, OUT_COUNT, OUT_RUNS, KIND and PHASE as R210 writes them. -/
def ended (k : Kind) (s : State) : State :=
  { s with
    outCur := s.cur
    outCount := s.runs.length
    mem := { s.mem with outRuns := s.runs ++ s.mem.outRuns.drop s.runs.length }
    kind := k
    phase := .done }

/-- `s`, ended by an error that records a bit offset (R242). -/
def erredAt (e : ErrCode) (offset : Nat) (s : State) : State :=
  ended .error { s with err := e, errOffset := offset }

/-- `s`, ended by RunOverflow (R242). -/
def overflowed (accumulated expected : Nat) (s : State) : State :=
  ended .error { s with err := .runOverflow, errAcc := accumulated, errExp := expected }

/-! ## The invariant -/

/-- R42 (b): White iff an even number of runs was emitted. -/
abbrev WhiteIffEven (s : State) : Prop := s.color = .white ↔ s.runs.length % 2 = 0

/-- R42 (b) in HRUN2: White iff an odd number of runs was emitted. -/
abbrev WhiteIffOdd (s : State) : Prop := s.color = .white ↔ s.runs.length % 2 = 1

/-- Parameters, input registers and memory, in every phase (R8, R32, R60). -/
abbrev StaticInv (s : State) : Prop :=
  s.params.Ok ∧ s.inCur < 2 ^ s.params.curBits ∧ s.inRefCount ≤ s.params.maxRuns ∧
    s.mem.wf ∧ (∀ c ∈ s.mem.inRef, c.1 < s.params.maxRuns) ∧ s.mem.outRuns.length ≤ s.params.maxRuns

/-- Outside DONE, KIND and ERR are 0 (R34), and the host has seen no DONE of this command (R278 d, log 20). -/
abbrev StatusInv (s : State) : Prop :=
  s.phase ≠ .done → s.kind = .line ∧ s.err = .none ∧ s.doneSeen = false

/-- While a command runs: R42 (a), (e), the ranges of R9 and R152, and the result registers as START cleared them. -/
abbrev BusyInv (s : State) : Prop :=
  s.busy = true →
    1 ≤ s.width ∧ s.width ≤ s.params.maxWidth ∧ s.width < 2 ^ s.params.accBits ∧
    s.cur ≤ s.mem.stream.length ∧ s.mem.stream.length < 2 ^ s.params.curBits ∧
    s.runs.sum = s.rs ∧ s.runs.length ≤ s.params.maxRuns ∧
    s.rs < 2 ^ s.params.accBits ∧ s.racc < 2 ^ s.params.accBits ∧
    s.outCur = 0 ∧ s.outCount = 0 ∧ s.errOffset = 0 ∧ s.errAcc = 0 ∧ s.errExp = 0

/-- RUN1D (R24, R42 (b), R205). -/
abbrev Run1DInv (s : State) : Prop :=
  s.phase = .run1D → s.cmode = .group3_1D ∧ s.a0 = -1 ∧ s.rs < s.width ∧ WhiteIffEven s

/-- The 2D phases: the mode, the latched reference line, and the range of A0 (R24, R31, R208). -/
abbrev TwoDInv (s : State) : Prop :=
  s.phase = .mode2D ∨ s.phase = .hrun1 ∨ s.phase = .hrun2 →
    s.cmode ≠ .group3_1D ∧ refWellFormed s.refLine s.width = true ∧
    s.refLine.length ≤ s.params.maxRuns ∧ -1 ≤ s.a0 ∧ s.a0 < (s.width : Int)

/-- MODE2D and HRUN1 (R42 (b), (c), (d)). -/
abbrev ModeInv (s : State) : Prop :=
  (s.phase = .mode2D → s.racc = 0) ∧
    (s.phase = .mode2D ∨ s.phase = .hrun1 → (s.rs : Int) ≤ max s.a0 0 ∧ WhiteIffEven s)

/-- HRUN2 (R42 (b), (c)). -/
abbrev HRun2Inv (s : State) : Prop :=
  s.phase = .hrun2 → max s.a0 0 ≤ (s.rs : Int) ∧ s.rs ≤ s.width ∧ WhiteIffOdd s

/-- DONE: the results are the command's (R35, R210), a LINE is a well-formed line (R42 (f)), and the error
registers are those of the reported error (R36, R243). -/
abbrev DoneInv (s : State) : Prop :=
  s.phase = .done →
    s.outCount = s.runs.length ∧ s.mem.outRuns.take s.outCount = s.runs ∧ s.outCur = s.cur ∧
    s.runs.sum = s.rs ∧
    (s.kind = .line → refWellFormed s.runs s.width = true) ∧
    (s.kind = .error ↔ s.err ≠ .none) ∧
    (s.err ≠ .runOverflow → s.errAcc = 0 ∧ s.errExp = 0) ∧
    (s.err = .runOverflow → s.errExp = s.width ∧ s.width < s.errAcc ∧ s.errOffset = 0) ∧
    (s.err = .none → s.errOffset = 0) ∧
    (s.err = .invalidCode ∨ s.err = .invalidModeCode ∨ s.err = .unexpectedEndOfData →
      s.errOffset = s.outCur)

/-- The machine's invariant. -/
abbrev Inv (s : State) : Prop :=
  StaticInv s ∧ StatusInv s ∧ BusyInv s ∧ Run1DInv s ∧ TwoDInv s ∧ ModeInv s ∧ HRun2Inv s ∧ DoneInv s

/-! ## Two commands on the same inputs -/

/-- The inputs of a command (R40, R217): stream, parameters, input registers and IN_REF. -/
abbrev SameInputs (s t : State) : Prop :=
  s.mem.stream = t.mem.stream ∧ s.mem.inRef = t.mem.inRef ∧ s.params = t.params ∧ s.inCur = t.inCur ∧
    s.inWidth = t.inWidth ∧ s.inMode = t.inMode ∧ s.inRefCount = t.inRefCount ∧ s.inWritten = t.inWritten

/-- The answer of a command as the host sees it. -/
def answerOf (r : Result) : LineAnswer :=
  match r with
  | .next s => lineAnswer s
  | .fault f => .fault f
  | .refused x => .refused x

/-- Execute code words one after another. -/
def execAll : List Instr → State → Result
  | [], s => .next s
  | i :: rest, s => andThen (exec i s) (execAll rest)

/-- A bit string written with digits. -/
abbrev bin (digits : List Nat) : Bits := digits.map (fun d => d == 1)

/-! ## The code words by class -/

/-- White terminating codes: instruction, colour, run value, width (R92, R141) (part). -/
def whiteTermCodes0 : List (Instr × Color × Nat × Nat) := [
  (.wt0, .white, 0, 8), (.wt1, .white, 1, 6), (.wt2, .white, 2, 4), (.wt3, .white, 3, 4),
  (.wt4, .white, 4, 4), (.wt5, .white, 5, 4), (.wt6, .white, 6, 4), (.wt7, .white, 7, 4),
  (.wt8, .white, 8, 5), (.wt9, .white, 9, 5), (.wt10, .white, 10, 5), (.wt11, .white, 11, 5),
  (.wt12, .white, 12, 6), (.wt13, .white, 13, 6), (.wt14, .white, 14, 6), (.wt15, .white, 15, 6)]

/-- White terminating codes: instruction, colour, run value, width (R92, R141) (part). -/
def whiteTermCodes1 : List (Instr × Color × Nat × Nat) := [
  (.wt16, .white, 16, 6), (.wt17, .white, 17, 6), (.wt18, .white, 18, 7),
  (.wt19, .white, 19, 7), (.wt20, .white, 20, 7), (.wt21, .white, 21, 7),
  (.wt22, .white, 22, 7), (.wt23, .white, 23, 7), (.wt24, .white, 24, 7),
  (.wt25, .white, 25, 7), (.wt26, .white, 26, 7), (.wt27, .white, 27, 7),
  (.wt28, .white, 28, 7), (.wt29, .white, 29, 8), (.wt30, .white, 30, 8), (.wt31, .white, 31, 8)]

/-- White terminating codes: instruction, colour, run value, width (R92, R141) (part). -/
def whiteTermCodes2 : List (Instr × Color × Nat × Nat) := [
  (.wt32, .white, 32, 8), (.wt33, .white, 33, 8), (.wt34, .white, 34, 8),
  (.wt35, .white, 35, 8), (.wt36, .white, 36, 8), (.wt37, .white, 37, 8),
  (.wt38, .white, 38, 8), (.wt39, .white, 39, 8), (.wt40, .white, 40, 8),
  (.wt41, .white, 41, 8), (.wt42, .white, 42, 8), (.wt43, .white, 43, 8),
  (.wt44, .white, 44, 8), (.wt45, .white, 45, 8), (.wt46, .white, 46, 8), (.wt47, .white, 47, 8)]

/-- White terminating codes: instruction, colour, run value, width (R92, R141) (part). -/
def whiteTermCodes3 : List (Instr × Color × Nat × Nat) := [
  (.wt48, .white, 48, 8), (.wt49, .white, 49, 8), (.wt50, .white, 50, 8),
  (.wt51, .white, 51, 8), (.wt52, .white, 52, 8), (.wt53, .white, 53, 8),
  (.wt54, .white, 54, 8), (.wt55, .white, 55, 8), (.wt56, .white, 56, 8),
  (.wt57, .white, 57, 8), (.wt58, .white, 58, 8), (.wt59, .white, 59, 8),
  (.wt60, .white, 60, 8), (.wt61, .white, 61, 8), (.wt62, .white, 62, 8), (.wt63, .white, 63, 8)]

/-- White terminating codes: instruction, colour, run value, width (R92, R141). -/
def whiteTermCodes : List (Instr × Color × Nat × Nat) :=
  whiteTermCodes0 ++ whiteTermCodes1 ++ whiteTermCodes2 ++ whiteTermCodes3

/-- Black terminating codes: instruction, colour, run value, width (R92, R145) (part). -/
def blackTermCodes0 : List (Instr × Color × Nat × Nat) := [
  (.bt0, .black, 0, 10), (.bt1, .black, 1, 3), (.bt2, .black, 2, 2), (.bt3, .black, 3, 2),
  (.bt4, .black, 4, 3), (.bt5, .black, 5, 4), (.bt6, .black, 6, 4), (.bt7, .black, 7, 5),
  (.bt8, .black, 8, 6), (.bt9, .black, 9, 6), (.bt10, .black, 10, 7), (.bt11, .black, 11, 7),
  (.bt12, .black, 12, 7), (.bt13, .black, 13, 8), (.bt14, .black, 14, 8), (.bt15, .black, 15, 9)]

/-- Black terminating codes: instruction, colour, run value, width (R92, R145) (part). -/
def blackTermCodes1 : List (Instr × Color × Nat × Nat) := [
  (.bt16, .black, 16, 10), (.bt17, .black, 17, 10), (.bt18, .black, 18, 10),
  (.bt19, .black, 19, 11), (.bt20, .black, 20, 11), (.bt21, .black, 21, 11),
  (.bt22, .black, 22, 11), (.bt23, .black, 23, 11), (.bt24, .black, 24, 11),
  (.bt25, .black, 25, 11), (.bt26, .black, 26, 12), (.bt27, .black, 27, 12),
  (.bt28, .black, 28, 12), (.bt29, .black, 29, 12), (.bt30, .black, 30, 12),
  (.bt31, .black, 31, 12)]

/-- Black terminating codes: instruction, colour, run value, width (R92, R145) (part). -/
def blackTermCodes2 : List (Instr × Color × Nat × Nat) := [
  (.bt32, .black, 32, 12), (.bt33, .black, 33, 12), (.bt34, .black, 34, 12),
  (.bt35, .black, 35, 12), (.bt36, .black, 36, 12), (.bt37, .black, 37, 12),
  (.bt38, .black, 38, 12), (.bt39, .black, 39, 12), (.bt40, .black, 40, 12),
  (.bt41, .black, 41, 12), (.bt42, .black, 42, 12), (.bt43, .black, 43, 12),
  (.bt44, .black, 44, 12), (.bt45, .black, 45, 12), (.bt46, .black, 46, 12),
  (.bt47, .black, 47, 12)]

/-- Black terminating codes: instruction, colour, run value, width (R92, R145) (part). -/
def blackTermCodes3 : List (Instr × Color × Nat × Nat) := [
  (.bt48, .black, 48, 12), (.bt49, .black, 49, 12), (.bt50, .black, 50, 12),
  (.bt51, .black, 51, 12), (.bt52, .black, 52, 12), (.bt53, .black, 53, 12),
  (.bt54, .black, 54, 12), (.bt55, .black, 55, 12), (.bt56, .black, 56, 12),
  (.bt57, .black, 57, 12), (.bt58, .black, 58, 12), (.bt59, .black, 59, 12),
  (.bt60, .black, 60, 12), (.bt61, .black, 61, 12), (.bt62, .black, 62, 12),
  (.bt63, .black, 63, 12)]

/-- Black terminating codes: instruction, colour, run value, width (R92, R145). -/
def blackTermCodes : List (Instr × Color × Nat × Nat) :=
  blackTermCodes0 ++ blackTermCodes1 ++ blackTermCodes2 ++ blackTermCodes3

/-- The 128 terminating codes. -/
def termCodes : List (Instr × Color × Nat × Nat) := whiteTermCodes ++ blackTermCodes

/-- White makeup codes, extended ones after them: instruction, colour, run value, width (R93, R94, R142, R143) (part). -/
def whiteMakeupCodes0 : List (Instr × Color × Nat × Nat) := [
  (.wm64, .white, 64, 5), (.wm128, .white, 128, 5), (.wm192, .white, 192, 6),
  (.wm256, .white, 256, 7), (.wm320, .white, 320, 8), (.wm384, .white, 384, 8),
  (.wm448, .white, 448, 8), (.wm512, .white, 512, 8), (.wm576, .white, 576, 8),
  (.wm640, .white, 640, 8), (.wm704, .white, 704, 9), (.wm768, .white, 768, 9),
  (.wm832, .white, 832, 9), (.wm896, .white, 896, 9), (.wm960, .white, 960, 9),
  (.wm1024, .white, 1024, 9)]

/-- White makeup codes, extended ones after them: instruction, colour, run value, width (R93, R94, R142, R143) (part). -/
def whiteMakeupCodes1 : List (Instr × Color × Nat × Nat) := [
  (.wm1088, .white, 1088, 9), (.wm1152, .white, 1152, 9), (.wm1216, .white, 1216, 9),
  (.wm1280, .white, 1280, 9), (.wm1344, .white, 1344, 9), (.wm1408, .white, 1408, 9),
  (.wm1472, .white, 1472, 9), (.wm1536, .white, 1536, 9), (.wm1600, .white, 1600, 9),
  (.wm1664, .white, 1664, 6), (.wm1728, .white, 1728, 9), (.wx1792, .white, 1792, 11),
  (.wx1856, .white, 1856, 11), (.wx1920, .white, 1920, 11), (.wx1984, .white, 1984, 12),
  (.wx2048, .white, 2048, 12)]

/-- White makeup codes, extended ones after them: instruction, colour, run value, width (R93, R94, R142, R143) (part). -/
def whiteMakeupCodes2 : List (Instr × Color × Nat × Nat) := [
  (.wx2112, .white, 2112, 12), (.wx2176, .white, 2176, 12), (.wx2240, .white, 2240, 12),
  (.wx2304, .white, 2304, 12), (.wx2368, .white, 2368, 12), (.wx2432, .white, 2432, 12),
  (.wx2496, .white, 2496, 12), (.wx2560, .white, 2560, 12)]

/-- White makeup codes, extended ones after them: instruction, colour, run value, width (R93, R94, R142, R143). -/
def whiteMakeupCodes : List (Instr × Color × Nat × Nat) :=
  whiteMakeupCodes0 ++ whiteMakeupCodes1 ++ whiteMakeupCodes2

/-- Black makeup codes, extended ones after them: instruction, colour, run value, width (R93, R94, R146, R147) (part). -/
def blackMakeupCodes0 : List (Instr × Color × Nat × Nat) := [
  (.bm64, .black, 64, 10), (.bm128, .black, 128, 12), (.bm192, .black, 192, 12),
  (.bm256, .black, 256, 12), (.bm320, .black, 320, 12), (.bm384, .black, 384, 12),
  (.bm448, .black, 448, 12), (.bm512, .black, 512, 13), (.bm576, .black, 576, 13),
  (.bm640, .black, 640, 13), (.bm704, .black, 704, 13), (.bm768, .black, 768, 13),
  (.bm832, .black, 832, 13), (.bm896, .black, 896, 13), (.bm960, .black, 960, 13),
  (.bm1024, .black, 1024, 13)]

/-- Black makeup codes, extended ones after them: instruction, colour, run value, width (R93, R94, R146, R147) (part). -/
def blackMakeupCodes1 : List (Instr × Color × Nat × Nat) := [
  (.bm1088, .black, 1088, 13), (.bm1152, .black, 1152, 13), (.bm1216, .black, 1216, 13),
  (.bm1280, .black, 1280, 13), (.bm1344, .black, 1344, 13), (.bm1408, .black, 1408, 13),
  (.bm1472, .black, 1472, 13), (.bm1536, .black, 1536, 13), (.bm1600, .black, 1600, 13),
  (.bm1664, .black, 1664, 13), (.bm1728, .black, 1728, 13), (.bx1792, .black, 1792, 11),
  (.bx1856, .black, 1856, 11), (.bx1920, .black, 1920, 11), (.bx1984, .black, 1984, 12),
  (.bx2048, .black, 2048, 12)]

/-- Black makeup codes, extended ones after them: instruction, colour, run value, width (R93, R94, R146, R147) (part). -/
def blackMakeupCodes2 : List (Instr × Color × Nat × Nat) := [
  (.bx2112, .black, 2112, 12), (.bx2176, .black, 2176, 12), (.bx2240, .black, 2240, 12),
  (.bx2304, .black, 2304, 12), (.bx2368, .black, 2368, 12), (.bx2432, .black, 2432, 12),
  (.bx2496, .black, 2496, 12), (.bx2560, .black, 2560, 12)]

/-- Black makeup codes, extended ones after them: instruction, colour, run value, width (R93, R94, R146, R147). -/
def blackMakeupCodes : List (Instr × Color × Nat × Nat) :=
  blackMakeupCodes0 ++ blackMakeupCodes1 ++ blackMakeupCodes2

/-- The 80 makeup codes. -/
def makeupCodes : List (Instr × Color × Nat × Nat) := whiteMakeupCodes ++ blackMakeupCodes

/-- EOL in the run tables: instruction and colour (R95, R144, R148). -/
def runEolCodes : List (Instr × Color) := [(.weol, .white), (.beol, .black)]

/-- Vertical modes: instruction, offset, width (R96, R177 to R183). -/
def verticalCodes : List (Instr × Int × Nat) := [
  (.v0, 0, 1), (.vr1, 1, 3), (.vr2, 2, 6), (.vr3, 3, 7), (.vl1, -1, 3), (.vl2, -2, 6),
  (.vl3, -3, 7)]

end Sys2Proof.Safety
end

