-- ==== Sys2Proof/Certificates/Slice0/Obligations.lean ====
section
/-! DEFINITION. The statements for the provers. Each docstring names the rule it formalises or the choice of
the model it rests on. -/

open Sys2Proof Sys2Proof.Machine Sys2Proof.Safety

/-! ## Encoding -/

/-- Code words written out bit by bit from R92 to R96 decode to what they stand for (a sanity statement). -/
def Obligations.SampleWordsDecode : Prop :=
  decode .white (bin [0, 1, 1, 1]) = .code .wt2 [] ∧
  decode .white (bin [0, 0, 1, 1, 0, 1, 0, 1]) = .code .wt0 [] ∧
  decode .white (bin [1, 1, 0, 1, 1, 0]) = .code .wm64 [false] ∧
  decode .white (bin [0, 0, 0, 0, 0, 0, 0, 1, 1, 1, 1, 1]) = .code .wx2560 [] ∧
  decode .white (bin [0, 0, 0, 0, 0, 0, 0, 0, 0, 0, 0, 1]) = .code .weol [] ∧
  decode .black (bin [1, 1]) = .code .bt2 [] ∧
  decode .black (bin [0, 0, 0, 0, 0, 0, 1, 1, 0, 1, 1, 0, 0]) = .code .bm512 [] ∧
  decode .black (bin [0, 0, 0, 0, 0, 0, 0, 1, 0, 0, 0]) = .code .bx1792 [] ∧
  decode .black (bin [0, 0, 0, 0, 0, 0, 0, 0, 0, 0, 0, 1]) = .code .beol [] ∧
  decode .mode (bin [0, 0, 0, 1]) = .code .p [] ∧
  decode .mode (bin [0, 0, 1]) = .code .h [] ∧
  decode .mode (bin [1]) = .code .v0 [] ∧
  decode .mode (bin [0, 0, 0, 0, 0, 1, 1]) = .code .vr3 [] ∧
  decode .mode (bin [0, 1, 0]) = .code .vl1 [] ∧
  decode .mode (bin [0, 0, 0, 0, 0, 0, 1]) = .code .ext [] ∧
  decode .mode (bin [0, 0, 0, 0, 0, 0, 0, 0, 0, 0, 0, 1]) = .code .eol []

/-- Decode and encode agree in both directions, for every code word, every table and every bit string: the
decoder reads `i` and leaves `rest` exactly where the bits are `i`'s code word followed by `rest` and `i`
is of the table (R90, R97, R120). -/
def Obligations.DecodeIsEncodeInverse : Prop :=
  ∀ (t : Table) (bits rest : Bits) (i : Instr),
    decode t bits = .code i rest ↔ i.WfIn t ∧ bits = encode i ++ rest

/-- R97: each code set is prefix-free; the length found is that of the unique code word that begins the
bits; the maximum lengths are 12, 13 and 12, and only EOL of the mode table is longer than its window. -/
def Obligations.CodeSetsPrefixFree : Prop :=
  (∀ i j : Instr, i.table = j.table → encode i <+: encode j → i = j) ∧
  (∀ (t : Table) (bits : Bits) (i : Instr), i.table = t → encode i <+: bits →
    decode t bits = .code i (bits.drop (encode i).length)) ∧
  (∀ i : Instr, 1 ≤ (encode i).length ∧
    (i.table = .white → (encode i).length ≤ 12) ∧
    (i.table = .black → (encode i).length ≤ 13) ∧
    (i.table = .mode → (encode i).length ≤ 12 ∧ (7 < (encode i).length → i = .eol)))

/-- R122: EOD exactly when the remaining bits are a proper prefix of a code word of the table, the empty
remainder included; and the closed form, when no code word is a prefix of the remainder r. -/
def Obligations.EndOfDataRule : Prop :=
  (∀ (t : Table) (bits : Bits), decode t bits = .eod ↔
    ∃ i : Instr, i.table = t ∧ bits <+: encode i ∧ bits.length < (encode i).length) ∧
  (∀ t : Table, decode t [] = .eod) ∧
  (∀ (t : Table) (bits : Bits), bits.length < t.maxLen →
    (∀ i : Instr, i.table = t → ¬ encode i <+: bits) →
    ((∃ i : Instr, i.table = t ∧ bits <+: encode i ∧ bits.length < (encode i).length) ↔
      (bits <+: encode .eol ∨ ¬ List.replicate t.zeros false <+: bits)))

/-- R99's illegal patterns: exactly the strings that begin with the table's eight (seven) zeros, do not begin
with EOL and are not cut short inside EOL; and the same as windows. -/
def Obligations.IllegalPatterns : Prop :=
  (∀ (t : Table) (bits : Bits), decode t bits = .invalid ↔
    List.replicate t.zeros false <+: bits ∧ ¬ encode .eol <+: bits ∧ ¬ bits <+: encode .eol) ∧
  (∀ v < 4096, decode .white (toBits 12 v) = .invalid ↔ v = 0 ∨ (2 ≤ v ∧ v ≤ 15)) ∧
  (∀ v < 8192, decode .black (toBits 13 v) = .invalid ↔ v ≤ 1 ∨ (4 ≤ v ∧ v ≤ 31)) ∧
  (∀ v < 4096, decode .mode (toBits 12 v) = .invalid ↔ v < 32 ∧ v ≠ 1)

/-- R110: the run values of the run tables: 0..63 at a terminating code, 64·k for k = 1..40 at a makeup or
extended makeup code, 4095 at EOL; 12 bits hold every one; a valid terminal has at least 2 bits. -/
def Obligations.RunTableValues : Prop :=
  ∀ (t : Table), t ≠ .mode → ∀ row ∈ codeRows t,
    2 ≤ row.width ∧ row.value < 2 ^ 12 ∧
    (row.instr.format = .runTerm → row.value ≤ 63) ∧
    (row.instr.format = .runMakeup ∨ row.instr.format = .runXMakeup →
      ∃ k, 1 ≤ k ∧ k ≤ 40 ∧ row.value = 64 * k) ∧
    (row.instr.format = .eol → row.value = 4095) ∧
    row.instr.format ≠ .mode

/-- R126: the ROM algorithm and the code-set meaning agree on every table and every remainder; so does what
the engine finds through the ROMs, the value's classification included. -/
def Obligations.RomWalkAgrees : Prop :=
  ∀ (t : Table) (bits : Bits), romWalk t bits = walk t bits ∧ romDecode t bits = decode t bits

/-- R125: every index a walk forms is inside its ROM, and the loop runs at most once. -/
def Obligations.RomIndicesInRange : Prop :=
  ∀ (t : Table) (bits : Bits),
    (peekBits t.window bits).toNat < romSize t ∧
    ∃ e, romEntry t (peekBits t.window bits).toNat = some e ∧
      (e.nextState ≠ 0 →
        hopIndex t bits e.nextState < romSize t ∧
        ∃ e', romEntry t (hopIndex t bits e.nextState) = some e' ∧ e'.nextState = 0)

/-- Entries of R106 to R108 as the spec gives them (a sanity statement). -/
def Obligations.RomSampleEntries : Prop :=
  romEntry .white 848 = some ⟨0, 8, 0⟩ ∧ romEntry .white 1 = some ⟨0, 12, 4095⟩ ∧
  romEntry .white 0 = some ⟨0, 0, 0⟩ ∧
  romEntry .black 6144 = some ⟨0, 2, 2⟩ ∧ romEntry .black 2 = some ⟨0, 12, 4095⟩ ∧
  romEntry .black 3 = some ⟨0, 12, 4095⟩ ∧ romEntry .black 108 = some ⟨0, 13, 512⟩ ∧
  romEntry .mode 0 = some ⟨128, 0, 0⟩ ∧ romEntry .mode 1 = some ⟨0, 7, 10⟩ ∧
  romEntry .mode 64 = some ⟨0, 1, 3⟩ ∧ romEntry .mode 129 = some ⟨0, 12, 11⟩ ∧
  romEntry .mode 128 = some ⟨0, 0, 0⟩ ∧ romEntry .mode 160 = none

/-- R101: a code word stands at the cursor iff the 13-bit window, masked, is the row's `match`. -/
def Obligations.WindowMatchesRow : Prop :=
  ∀ (i : Instr) (v : Nat), v < 2 ^ 13 → (v &&& i.mask = i.matchValue ↔ encode i <+: toBits 13 v)

/-- R61: the four operations of the bit-stream port. -/
def Obligations.BitStreamPort : Prop :=
  (∀ (s : State) (n : Nat), n ≤ 13 →
    (∀ j < n, (peekBits n (remaining s)).getLsbD (n - 1 - j) =
      (if s.cur + j < s.mem.stream.length then s.mem.stream.getD (s.cur + j) false else false)) ∧
    (∀ k, n ≤ k → (peekBits n (remaining s)).getLsbD k = false)) ∧
  (∀ s : State, peekBits 0 (remaining s) = 0) ∧
  (∀ (s : State) (n : Nat), n ≤ s.mem.stream.length - s.cur → FitsCur n s →
    consume n s = .next { s with cur := s.cur + n }) ∧
  (∀ s : State, bitsRemaining s = s.mem.stream.length - s.cur) ∧
  (∀ s : State, atEnd s = true ↔ s.cur = s.mem.stream.length)

/-! ## State, reset, status -/

/-- R41: the reset value of every register the rule gives one. -/
def Obligations.ResetValues : Prop :=
  State.reset.phase = .idle ∧ statusWord State.reset = 0 ∧
  State.reset.outCur = 0 ∧ State.reset.outCount = 0 ∧ State.reset.errOffset = 0 ∧
  State.reset.errAcc = 0 ∧ State.reset.errExp = 0 ∧
  State.reset.cur = 0 ∧ State.reset.rs = 0 ∧ State.reset.racc = 0 ∧ State.reset.width = 0 ∧
  State.reset.cmode.code = 0 ∧ State.reset.a0 = -1 ∧ State.reset.color = .white ∧
  State.reset.runs = [] ∧ State.reset.refLine = []

/-- R270: a reset asserted at any time, in any phase, sets every register that R41 gives a value to that value
and discards the command. The model's choices: the input registers and run buffers, unspecified in R41, are
as if never written since reset (`inWritten`, no cell listed, log 4 and 5); the host's stream, the
parameters and the queue stay (log 16); what the host had seen is forgotten (log 20). -/
def Obligations.ResetAtAnyTime : Prop :=
  ∀ (s : State) (rest : List HostAction), s.hostQueue = .reset :: rest →
    ∃ t, step s = .next t ∧
      t.phase = .idle ∧ statusWord t = 0 ∧
      t.outCur = 0 ∧ t.outCount = 0 ∧ t.errOffset = 0 ∧ t.errAcc = 0 ∧ t.errExp = 0 ∧
      t.cur = 0 ∧ t.rs = 0 ∧ t.racc = 0 ∧ t.width = 0 ∧ t.cmode = .group3_1D ∧ t.a0 = -1 ∧
      t.color = .white ∧ t.runs = [] ∧ t.refLine = [] ∧
      t.inWritten = { cur := false, width := false, mode := false, refCount := false } ∧
      t.mem = { stream := s.mem.stream, inRef := [], outRuns := [] } ∧
      t.params = s.params ∧ t.hostQueue = rest ∧ t.doneSeen = false

/-- R34: the fields of STATUS, for every state. -/
def Obligations.StatusFields : Prop :=
  ∀ s : State,
    ((statusWord s).getLsbD 0 = true ↔
      s.phase = .run1D ∨ s.phase = .mode2D ∨ s.phase = .hrun1 ∨ s.phase = .hrun2) ∧
    ((statusWord s).getLsbD 1 = true ↔ s.phase = .done) ∧
    (s.phase = .done →
      (statusWord s).extractLsb' 2 2 =
        (match s.kind with | .line => 0#2 | .eos => 1#2 | .error => 2#2) ∧
      (statusWord s).extractLsb' 4 3 =
        (match s.err with
          | .none => 0#3 | .invalidCode => 1#3 | .invalidModeCode => 2#3 | .runOverflow => 3#3
          | .unexpectedEndOfData => 4#3)) ∧
    (s.phase ≠ .done →
      (statusWord s).extractLsb' 2 2 = 0#2 ∧ (statusWord s).extractLsb' 4 3 = 0#3) ∧
    (statusWord s).extractLsb' 7 9 = 0#9

/-- The invariant holds right after reset. -/
def Obligations.ResetMeetsInvariant : Prop := Inv State.reset

/-- HEADLINE. Every step keeps the invariant: R42 (a) to (f), the ranges of the registers, the canonical memory,
the result and error registers in DONE; and, of the model's own `doneSeen`, that the host has seen no DONE
outside it (log 20). -/
def Obligations.StepKeepsInvariant : Prop :=
  ∀ s t : State, Inv s → step s = .next t → Inv t

/-! ## The host -/

/-- R200 and R201: START from IDLE or DONE with an admitted command (R9, R152, R273): what is latched and
cleared, and the first phase. The model's choices: in Group3_1D, REF has as many entries as IN_REF_COUNT
holds even where that was never written since reset (log 4), and an entry whose IN_REF cell was never
written is a free value (log 7); the host has not seen this command's DONE (log 20). -/
def Obligations.StartBeginsCommand : Prop :=
  ∀ (s : State) (rest : List HostAction), s.hostQueue = .start :: rest →
    (s.phase = .idle ∨ s.phase = .done) →
    s.inWritten.cur = true → s.inWritten.width = true → s.inWritten.mode = true →
    1 ≤ s.inWidth → s.inWidth ≤ s.params.maxWidth → s.inWidth < 2 ^ s.params.accBits →
    s.inCur ≤ s.mem.stream.length →
    s.mem.stream.length < 2 ^ s.params.curBits → s.inRefCount ≤ s.params.maxRuns →
    (s.inMode = 0#2 → ∃ ref, ref.length = s.inRefCount ∧
      (∀ i v, i < s.inRefCount → readCell i s.mem.inRef = some v → ref[i]? = some v) ∧ step s = .next
      { s with
        cur := s.inCur, width := s.inWidth, cmode := .group3_1D, refLine := ref, color := .white,
        a0 := -1, rs := 0, racc := 0, runs := [], outCur := 0, outCount := 0, errOffset := 0,
        errAcc := 0, errExp := 0, kind := .line, err := .none, phase := .run1D,
        doneSeen := false, hostQueue := rest, freeIndex := s.freeIndex + 1 }) ∧
    (∀ ref mode, s.inWritten.refCount = true → readCells s.inRefCount 0 s.mem.inRef = some ref →
      ref ≠ [] → ref.sum = s.inWidth →
      (s.inMode = 1#2 ∧ mode = CodingMode.group3_2D ∨ s.inMode = 2#2 ∧ mode = CodingMode.group4) →
      step s = .next
        { s with
          cur := s.inCur, width := s.inWidth, cmode := mode, refLine := ref, color := .white,
          a0 := -1, rs := 0, racc := 0, runs := [], outCur := 0, outCount := 0, errOffset := 0,
          errAcc := 0, errExp := 0, kind := .line, err := .none, phase := .mode2D,
          doneSeen := false, hostQueue := rest, freeIndex := s.freeIndex + 1 })

/-- R9, R28, R31, R33, R152, R273: a START whose command is not admitted, or in the wrong phase, is refused. -/
def Obligations.StartNotAdmittedIsRefused : Prop :=
  ∀ (s : State) (rest : List HostAction), s.hostQueue = .start :: rest →
    (s.busy = true ∨ s.inWidth < 1 ∨ s.params.maxWidth < s.inWidth ∨
      2 ^ s.params.accBits ≤ s.inWidth ∨ s.mem.stream.length < s.inCur ∨
      2 ^ s.params.curBits ≤ s.mem.stream.length ∨ s.inMode = 3#2 ∨
      s.inWritten.cur = false ∨ s.inWritten.width = false ∨ s.inWritten.mode = false ∨
      (s.inMode ≠ 0#2 ∧ (s.inWritten.refCount = false ∨
        ∀ ref, readCells s.inRefCount 0 s.mem.inRef = some ref → ref = [] ∨ ref.sum ≠ s.inWidth))) →
    ∃ r, step s = .refused r

/-- R33, R215, R216: ACK in DONE and ABORT in any phase clear STATUS and return to IDLE, and change no other
register (the model's note of what the host has seen is cleared, log 20); ACK outside DONE is refused. -/
def Obligations.AckAndAbort : Prop :=
  (∀ (s : State) (rest : List HostAction), s.hostQueue = .ack :: rest → s.phase = .done →
    step s = .next { s with kind := .line, err := .none, phase := .idle, doneSeen := false,
                            hostQueue := rest, freeIndex := s.freeIndex + 1 }) ∧
  (∀ (s : State) (rest : List HostAction), s.hostQueue = .ack :: rest → s.phase ≠ .done →
    step s = .refused .strobeNotAccepted) ∧
  (∀ (s : State) (rest : List HostAction), s.hostQueue = .abort :: rest →
    ∃ t, step s = .next t ∧ statusWord t = 0 ∧
      t = { s with kind := .line, err := .none, phase := .idle, doneSeen := false,
                   hostQueue := rest, freeIndex := s.freeIndex + 1 })

/-- R37: the host writes input registers only, only while PHASE is IDLE or DONE, and reads back what it
wrote: the whole next state of every write, in which nothing but the written register (with its
written flag, log 4) and the queue differs. A write to a read-only register (the model's choice, log 27)
and a value that its register cannot hold (the model's choice, the range of IN_REF_COUNT among them, log
14) are refused. That a cell at or past P_MAX_RUNS, which R60 does not give the buffer, is
a fault is the model's inference (log 21). -/
def Obligations.HostWriteRights : Prop :=
  (∀ (s : State) (r : HostReg) (v : Nat) (rest : List HostAction),
    s.hostQueue = .write r v :: rest → s.busy = true → ∃ x, step s = .refused x) ∧
  (∀ (s : State) (r : HostReg) (v : Nat) (rest : List HostAction),
    s.hostQueue = .write r v :: rest → (r = .status ∨ r.isResult = true) → ∃ x, step s = .refused x) ∧
  (∀ (s : State) (v : Nat) (rest : List HostAction), s.busy = false →
    (s.hostQueue = .write .inCur v :: rest →
      (v < 2 ^ s.params.curBits → ∃ t, step s = .next t ∧ hostValue .inCur t = v ∧
        t = { s with inCur := v, inWritten := { s.inWritten with cur := true },
                     hostQueue := rest, freeIndex := s.freeIndex + 1 }) ∧
      (2 ^ s.params.curBits ≤ v → step s = .refused .valueTooWide)) ∧
    (s.hostQueue = .write .inWidth v :: rest →
      ∃ t, step s = .next t ∧ hostValue .inWidth t = v ∧
        t = { s with inWidth := v, inWritten := { s.inWritten with width := true },
                     hostQueue := rest, freeIndex := s.freeIndex + 1 }) ∧
    (s.hostQueue = .write .inMode v :: rest →
      (v < 4 → ∃ t, step s = .next t ∧ hostValue .inMode t = v ∧
        t = { s with inMode := BitVec.ofNat 2 v, inWritten := { s.inWritten with mode := true },
                     hostQueue := rest, freeIndex := s.freeIndex + 1 }) ∧
      (4 ≤ v → step s = .refused .valueTooWide)) ∧
    (s.hostQueue = .write .inRefCount v :: rest →
      (v ≤ s.params.maxRuns → ∃ t, step s = .next t ∧ hostValue .inRefCount t = v ∧
        t = { s with inRefCount := v, inWritten := { s.inWritten with refCount := true },
                     hostQueue := rest, freeIndex := s.freeIndex + 1 }) ∧
      (s.params.maxRuns < v → step s = .refused .valueTooWide)) ∧
    (∀ i, s.hostQueue = .write (.inRef i) v :: rest →
      (i < s.params.maxRuns → ∃ t, step s = .next t ∧ hostValue (.inRef i) t = v ∧
        (∀ j, j ≠ i → readCell j t.mem.inRef = readCell j s.mem.inRef) ∧
        t = { s with mem := { s.mem with inRef := writeCell i v s.mem.inRef },
                     hostQueue := rest, freeIndex := s.freeIndex + 1 }) ∧
      (s.params.maxRuns ≤ i → step s = .fault .noSuchCell)))

/-- R37, R70 and R278 (d): a result or error register is read only after the host has seen `STATUS.DONE = 1`, and
then gives its value; STATUS is readable in every phase; a read changes no register. The model's
inferences (log 20): the host has seen DONE when a read of STATUS was answered in DONE, a result read that
breaks the duty is a refusal, and the duty ends with DONE. A cell at or past P_MAX_RUNS is a fault (the
model's inference, log 21). -/
def Obligations.HostReadRights : Prop :=
  (∀ (s : State) (r : HostReg) (rest : List HostAction), s.hostQueue = .read r :: rest →
    noSuchReg r s = false → r.isResult = true → (s.phase ≠ .done ∨ s.doneSeen = false) →
    step s = .refused .resultNotValid) ∧
  (∀ (s : State) (r : HostReg) (rest : List HostAction), s.hostQueue = .read r :: rest →
    noSuchReg r s = false → (r.isResult = true → s.phase = .done ∧ s.doneSeen = true) →
    step s = .next { s with readData := hostValue r s.popAction,
                            doneSeen := (s.doneSeen || (r == .status && s.phase == .done)),
                            hostQueue := rest, freeIndex := s.freeIndex + 1 }) ∧
  (∀ (s : State) (i : Nat) (rest : List HostAction),
    (s.hostQueue = .read (.inRef i) :: rest ∨ s.hostQueue = .read (.outRuns i) :: rest) →
    s.params.maxRuns ≤ i → step s = .fault .noSuchCell) ∧
  (∀ (s : State), hostValue .status s = (statusWord s).toNat ∧ hostValue .outCur s = s.outCur ∧
    hostValue .outCount s = s.outCount ∧ hostValue .errOffset s = s.errOffset ∧
    hostValue .errAcc s = s.errAcc ∧ hostValue .errExp s = s.errExp ∧
    ∀ i v, i < s.outCount → s.mem.outRuns[i]? = some v → hostValue (.outRuns i) s = v)

/-- The run-buffer cells are a memory (R60): a read after a write to the same cell gives the value written and
every other cell is as before; a range of cells written one by one reads back as the list. -/
def Obligations.RunBufferCells : Prop :=
  (∀ (cells : Cells) (i v : Nat),
    readCell i (writeCell i v cells) = some v ∧
    (∀ j, j ≠ i → readCell j (writeCell i v cells) = readCell j cells)) ∧
  (∀ (i n : Nat) (cells : Cells) (vs : List Nat), readCells n i cells = some vs ↔
    vs.length = n ∧ ∀ k < n, readCell (i + k) cells = vs[k]?)

/-- R66: the host's bytes as stream bits, with FILL_ORDER most-significant-first and (log 15) its reverse;
loading a stream replaces the stream and changes nothing else, and is refused while BUSY (R278 b). That N is
the `n` of the load, cut to the bits the buffer has, is the model's choice (log 30). -/
def Obligations.FillOrderMapsBytes : Prop :=
  (∀ (bytes : List Byte) (k j : Nat) (b : Byte), bytes[k]? = some b → j < 8 →
    (streamOfBytes .msbFirst bytes)[8 * k + j]? = some (b.getLsbD (7 - j)) ∧
    (streamOfBytes .lsbFirst bytes)[8 * k + j]? = some (b.getLsbD j)) ∧
  (∀ (s : State) (bytes : List Byte) (n : Nat) (rest : List HostAction),
    s.hostQueue = .loadStream bytes n :: rest →
    (s.busy = true → step s = .refused .streamWhileBusy) ∧
    (s.busy = false → step s = .next
      { s with mem := { s.mem with stream := (streamOfBytes s.params.fillOrder bytes).take n },
               hostQueue := rest, freeIndex := s.freeIndex + 1 }))

/-! ## Steps -/

/-- A step runs the decoded instruction: when the bits at the cursor decode to `i` in the table in force, an
engine step is `exec i`, from the same state when no host action is queued, and after the action is
taken off the queue when the host yields. -/
def Obligations.StepRunsDecoded : Prop :=
  ∀ (s : State) (t : Table) (i : Instr) (rest : Bits), currentTable s = some t →
    decode t (remaining s) = .code i rest →
    (s.hostQueue = [] → step s = exec i s) ∧
    (∀ q, s.hostQueue = .yield :: q →
      step s = exec i { s with hostQueue := q, freeIndex := s.freeIndex + 1 })

/-- R124, R149, R150, R189: how a failed walk is reported: the error, its offset and the cursor are the failing
code word's start, nothing is consumed, and RACC, RUNS, RS and COLOR keep their values. -/
def Obligations.FailedWalkReported : Prop :=
  ∀ (s : State) (t : Table), currentTable s = some t → s.hostQueue = [] →
    (decode t (remaining s) = .invalid → t ≠ .mode → step s = .next (erredAt .invalidCode s.cur s)) ∧
    (decode t (remaining s) = .invalid → t = .mode →
      step s = .next (erredAt .invalidModeCode s.cur s)) ∧
    (decode t (remaining s) = .eod → step s = .next (erredAt .unexpectedEndOfData s.cur s))

/-- R271: while IDLE (and in DONE, R202) nothing changes but by the host. The rules say that no step is executed
there; that the machine's step then answers the same state is the model's inference (log 23). -/
def Obligations.IdleChangesNothing : Prop :=
  ∀ s : State, s.phase = .idle ∨ s.phase = .done →
    (s.hostQueue = [] → step s = .next s) ∧
    (∀ q, s.hostQueue = .yield :: q →
      step s = .next { s with hostQueue := q, freeIndex := s.freeIndex + 1 })

/-- R251 and R271: only the host takes the engine out of DONE or IDLE: START, or from DONE also ACK, ABORT and
reset. -/
def Obligations.OnlyTheHostLeavesDone : Prop :=
  ∀ s t : State, step s = .next t →
    (s.phase = .done → t.phase ≠ .done →
      ∃ a rest, s.hostQueue = a :: rest ∧ (a = .start ∨ a = .ack ∨ a = .abort ∨ a = .reset)) ∧
    (s.phase = .idle → t.phase ≠ .idle → ∃ rest, s.hostQueue = .start :: rest)

/-- R219: the next phases of an engine step, phase by phase. The last clause is the model's inference: in IDLE
and DONE, where R202 says no step is executed, the engine's step answers the same state (log 23). -/
def Obligations.PhaseTransitions : Prop :=
  ∀ s t : State, engineStep s = .next t →
    (s.phase = .run1D → t.phase = .run1D ∨ t.phase = .done) ∧
    (s.phase = .mode2D → t.phase = .mode2D ∨ t.phase = .hrun1 ∨ t.phase = .done) ∧
    (s.phase = .hrun1 → t.phase = .hrun1 ∨ t.phase = .hrun2 ∨ t.phase = .done) ∧
    (s.phase = .hrun2 → t.phase = .hrun2 ∨ t.phase = .mode2D ∨ t.phase = .done) ∧
    (s.phase = .idle ∨ s.phase = .done → t = s)

/-! ## Run codes -/

/-- R141, R145 and R205: every terminating code in RUN1D: RunOverflow with the code word consumed, the line
complete, or the run emitted and the colour flipped. -/
def Obligations.TerminatingInRun1D : Prop :=
  ∀ i c n w, (i, c, n, w) ∈ termCodes → ∀ s : State, s.phase = .run1D → s.color = c →
    FitsCur w s → FitsAcc (s.rs + (s.racc + n)) s → (s.rs + (s.racc + n) ≤ s.width → RoomForRun s) →
    exec i s = .next (
      let L := s.racc + n
      if s.width < s.rs + L then
        overflowed (s.rs + L) s.width { s with cur := s.cur + w, racc := 0 }
      else if s.rs + L = s.width then
        ended .line { s with cur := s.cur + w, racc := 0, runs := s.runs ++ [L], rs := s.rs + L,
                             color := c.flip }
      else
        { s with cur := s.cur + w, racc := 0, runs := s.runs ++ [L], rs := s.rs + L, color := c.flip })

/-- R141, R145 and R206: every terminating code in HRUN1: `a1 = max(A0, 0) + L`. -/
def Obligations.TerminatingInHRun1 : Prop :=
  ∀ i c n w, (i, c, n, w) ∈ termCodes → ∀ s : State, s.phase = .hrun1 → s.color = c →
    FitsCur w s → FitsAcc ((max s.a0 0).toNat + (s.racc + n)) s → (s.rs : Int) ≤ max s.a0 0 →
    ((max s.a0 0).toNat + (s.racc + n) ≤ s.width → RoomForRun s) →
    exec i s = .next (
      let a1 := (max s.a0 0).toNat + (s.racc + n)
      if s.width < a1 then
        overflowed a1 s.width { s with cur := s.cur + w, racc := 0 }
      else
        { s with cur := s.cur + w, racc := 0, runs := s.runs ++ [a1 - s.rs], rs := a1,
                 phase := .hrun2 })

/-- R141, R145, R207 and R208: every terminating code in HRUN2, whose colour is the opposite of COLOR:
`a2 = RS + L`. -/
def Obligations.TerminatingInHRun2 : Prop :=
  ∀ i c n w, (i, c, n, w) ∈ termCodes → ∀ s : State, s.phase = .hrun2 → s.color = c.flip →
    FitsCur w s → FitsAcc (s.rs + (s.racc + n)) s → (s.rs + (s.racc + n) ≤ s.width → RoomForRun s) →
    exec i s = .next (
      let L := s.racc + n
      if s.width < s.rs + L then
        overflowed (s.rs + L) s.width { s with cur := s.cur + w, racc := 0 }
      else if s.rs + L = s.width then
        ended .line { s with cur := s.cur + w, racc := 0, runs := s.runs ++ [L], rs := s.rs + L,
                             a0 := ((s.rs + L : Nat) : Int), phase := .mode2D }
      else
        { s with cur := s.cur + w, racc := 0, runs := s.runs ++ [L], rs := s.rs + L,
                 a0 := ((s.rs + L : Nat) : Int), phase := .mode2D })

/-- R142, R143, R146, R147: every makeup code adds to RACC and moves the cursor, in each run phase of its
colour; PHASE, COLOR, RS, A0 and RUNS are unchanged and RACC may exceed W. -/
def Obligations.MakeupAccumulates : Prop :=
  ∀ i c v w, (i, c, v, w) ∈ makeupCodes → ∀ s : State,
    ((s.phase = .run1D ∨ s.phase = .hrun1) ∧ s.color = c ∨ s.phase = .hrun2 ∧ s.color = c.flip) →
    FitsCur w s → FitsAcc (s.racc + v) s →
    exec i s = .next { s with cur := s.cur + w, racc := s.racc + v }

/-- R144, R148 and R185: EOL in a run phase or in the mode phase consumes 12 bits and ends the command with EOS
and the runs emitted so far; a makeup value in progress is discarded. -/
def Obligations.EolEndsCommand : Prop :=
  (∀ i c, (i, c) ∈ runEolCodes → ∀ s : State,
    ((s.phase = .run1D ∨ s.phase = .hrun1) ∧ s.color = c ∨ s.phase = .hrun2 ∧ s.color = c.flip) →
    FitsCur 12 s →
    exec i s = .next (ended .eos { s with cur := s.cur + 12, racc := 0 })) ∧
  (∀ s : State, s.phase = .mode2D → FitsCur 12 s →
    exec .eol s = .next (ended .eos { s with cur := s.cur + 12 }))

/-! ## Mode codes -/

/-- R175 (and R208): Pass moves a0 to b2 and emits nothing, unless b2 = W: then the pending run is emitted and
the line is complete. -/
def Obligations.PassMovesA0 : Prop :=
  ∀ s : State, s.phase = .mode2D → FitsCur 4 s → FitsAcc (b2 s) s →
    (b2 s = s.width → s.rs < s.width → RoomForRun s) →
    exec .p s = .next (
      if b2 s = s.width then
        if s.rs < s.width then
          ended .line { s with cur := s.cur + 4, a0 := (b2 s : Int),
                               runs := s.runs ++ [s.width - s.rs], rs := s.width }
        else ended .line { s with cur := s.cur + 4, a0 := (b2 s : Int) }
      else { s with cur := s.cur + 4, a0 := (b2 s : Int) })

/-- R176: Horizontal consumes 3 bits, clears RACC and expects the first run; COLOR is unchanged. -/
def Obligations.HorizontalBegins : Prop :=
  ∀ s : State, s.phase = .mode2D → FitsCur 3 s →
    exec .h s = .next { s with cur := s.cur + 3, racc := 0, phase := .hrun1 }

/-- R177 to R183, R187 and R208: every vertical code: a1 left of a0 (nothing consumed), a1 past W
(RunOverflow, code word consumed), the line complete, or a run emitted up to a1 and the colour flipped. -/
def Obligations.VerticalModes : Prop :=
  ∀ i k w, (i, k, w) ∈ verticalCodes → ∀ s : State, s.phase = .mode2D →
    (s.rs : Int) ≤ max s.a0 0 →
    (max s.a0 0 ≤ (b1 s : Int) + k → FitsCur w s ∧ FitsAcc ((b1 s : Int) + k).toNat s) →
    (max s.a0 0 ≤ (b1 s : Int) + k → (b1 s : Int) + k ≤ (s.width : Int) → RoomForRun s) →
    exec i s = .next (
      let a1 : Int := (b1 s : Int) + k
      if a1 < max s.a0 0 then erredAt .invalidModeCode s.cur s
      else if (s.width : Int) < a1 then
        overflowed a1.toNat s.width { s with cur := s.cur + w }
      else if a1 = (s.width : Int) then
        ended .line { s with cur := s.cur + w, runs := s.runs ++ [a1.toNat - s.rs], rs := a1.toNat,
                             a0 := a1, color := s.color.flip }
      else
        { s with cur := s.cur + w, runs := s.runs ++ [a1.toNat - s.rs], rs := a1.toNat, a0 := a1,
                 color := s.color.flip })

/-- R184: the extension prefix always raises InvalidModeCode at its start; nothing is consumed. -/
def Obligations.ExtensionRefused : Prop :=
  ∀ s : State, s.phase = .mode2D → exec .ext s = .next (erredAt .invalidModeCode s.cur s)

/-! ## Stops, frames, precision -/

/-- A code word outside the table in force has no meaning (R90): the meaning refuses (log 12). No step reaches
this: `StepRunsDecoded` runs only code words of the table in force. -/
def Obligations.OutsideItsTableRefused : Prop :=
  ∀ (i : Instr) (s : State), currentTable s ≠ some i.table → exec i s = .refused .notInCurrentTable

/-- R9, R152, R204: a value beyond a parameter is refused, never wrapped, in every form of every code word: the
cursor of all of them (EXT, and a vertical code whose a1 is left of a0, consume nothing), the accumulator of
makeup codes, the position that terminating, Pass and vertical codes form, and every emit into a full
buffer. The names of the refusals and the order of the checks are the model's choice (log 10). -/
def Obligations.ParametersBoundEveryValue : Prop :=
  (∀ (i : Instr) (s : State), currentTable s = some i.table → i ≠ .ext →
    (∀ k w, (i, k, w) ∈ verticalCodes → max s.a0 0 ≤ (b1 s : Int) + k) →
    ¬ FitsCur (encode i).length s → exec i s = .refused .cursorExceeded) ∧
  (∀ i c v w, (i, c, v, w) ∈ makeupCodes → ∀ s : State, currentTable s = some i.table →
    FitsCur w s → ¬ FitsAcc (s.racc + v) s → exec i s = .refused .positionExceeded) ∧
  (∀ i c n w, (i, c, n, w) ∈ termCodes → ∀ s : State, currentTable s = some i.table → FitsCur w s →
    let start := if s.phase = .hrun1 then (max s.a0 0).toNat else s.rs
    (¬ FitsAcc (start + (s.racc + n)) s → exec i s = .refused .positionExceeded) ∧
    (FitsAcc (start + (s.racc + n)) s → start + (s.racc + n) ≤ s.width → s.rs ≤ start → ¬ RoomForRun s →
      exec i s = .refused .runBufferFull)) ∧
  (∀ s : State, s.phase = .mode2D → FitsCur 4 s →
    (¬ FitsAcc (b2 s) s → exec .p s = .refused .positionExceeded) ∧
    (FitsAcc (b2 s) s → b2 s = s.width → s.rs < s.width → ¬ RoomForRun s →
      exec .p s = .refused .runBufferFull)) ∧
  (∀ i k w, (i, k, w) ∈ verticalCodes → ∀ s : State, s.phase = .mode2D →
    max s.a0 0 ≤ (b1 s : Int) + k → FitsCur w s →
    (¬ FitsAcc ((b1 s : Int) + k).toNat s → exec i s = .refused .positionExceeded) ∧
    (FitsAcc ((b1 s : Int) + k).toNat s → (b1 s : Int) + k ≤ (s.width : Int) →
      (s.rs : Int) ≤ max s.a0 0 → ¬ RoomForRun s → exec i s = .refused .runBufferFull))

/-- The frame of every code word: what no code word changes, what only the end of a command changes, and which
classes leave COLOR, A0, RS, RUNS and RACC alone. -/
def Obligations.CodeWordFrame : Prop :=
  ∀ (i : Instr) (s t : State), exec i s = .next t →
    (t.width = s.width ∧ t.cmode = s.cmode ∧ t.refLine = s.refLine ∧ t.inCur = s.inCur ∧
      t.inWidth = s.inWidth ∧ t.inMode = s.inMode ∧ t.inRefCount = s.inRefCount ∧
      t.inWritten = s.inWritten ∧ t.mem.stream = s.mem.stream ∧ t.mem.inRef = s.mem.inRef ∧
      t.params = s.params ∧ t.hostQueue = s.hostQueue ∧ t.freeIndex = s.freeIndex ∧
      t.readData = s.readData ∧ t.doneSeen = s.doneSeen) ∧
    (t.phase ≠ .done → t.kind = s.kind ∧ t.err = s.err ∧ t.outCur = s.outCur ∧
      t.outCount = s.outCount ∧ t.errOffset = s.errOffset ∧ t.errAcc = s.errAcc ∧
      t.errExp = s.errExp ∧ t.mem = s.mem) ∧
    (t.phase = .done → (t.kind ≠ .error → t.err = s.err ∧ t.errOffset = s.errOffset ∧
        t.errAcc = s.errAcc ∧ t.errExp = s.errExp) ∧
      (∀ j, t.runs.length ≤ j → readOutRun t.mem j = readOutRun s.mem j) ∧
      (∀ j < t.runs.length, readOutRun t.mem j = t.runs[j]?)) ∧
    (i.format = .runMakeup ∨ i.format = .runXMakeup ∨ i.format = .eol ∨ i = .h ∨ i = .ext →
      t.color = s.color ∧ t.a0 = s.a0 ∧ t.rs = s.rs ∧ t.runs = s.runs) ∧
    (i.format = .runMakeup ∨ i.format = .runXMakeup → t.phase = s.phase) ∧
    (i.format = .runTerm → s.phase ≠ .run1D → t.color = s.color) ∧
    (i.format = .runTerm → s.phase ≠ .hrun2 → t.a0 = s.a0) ∧
    (i = .p → t.color = s.color ∧ t.racc = s.racc) ∧
    (i.format = .mode → i ≠ .h → t.racc = s.racc)

/-- R21 and R121: a code word moves the cursor by exactly its width, or by nothing where it is refused with
InvalidModeCode. -/
def Obligations.CursorMovesByWidth : Prop :=
  ∀ (i : Instr) (s t : State), exec i s = .next t →
    t.cur = s.cur + (encode i).length ∨
    (t.cur = s.cur ∧ t.phase = .done ∧ t.kind = .error ∧ t.err = .invalidModeCode)

/-- R243 and R249: errors are precise. The state after an error is the state before the failing step with the
error fields and the end of the command, and for RunOverflow only the cursor's advance and, in a run
phase, RACC cleared. -/
def Obligations.ErrorsArePrecise : Prop :=
  ∀ s t : State, s.busy = true → engineStep s = .next t → t.phase = .done → t.kind = .error →
    (∃ e, (e = .invalidCode ∨ e = .invalidModeCode ∨ e = .unexpectedEndOfData) ∧
      t = erredAt e s.cur s) ∨
    (∃ i rest tab acc, currentTable s = some tab ∧ decode tab (remaining s) = .code i rest ∧
      s.width < acc ∧
      t = overflowed acc s.width
        { s with cur := s.cur + (encode i).length, racc := if s.phase = .mode2D then s.racc else 0 })

/-- The engine writes neither its inputs nor its stream (R37, R60): an engine step leaves every input register,
IN_REF, the stream and the parameters as they were. -/
def Obligations.EngineLeavesInputs : Prop :=
  ∀ s t : State, engineStep s = .next t → SameInputs s t

/-- No step changes the machine's parameters (the model's choice to hold them in the state, log 1). -/
def Obligations.ParametersFixed : Prop :=
  ∀ s t : State, step s = .next t → t.params = s.params

/-! ## Whole commands -/

/-- R211: the LINE outcome: OUT_RUNS is a well-formed line summing exactly to W, OUT_CUR is just after the last
code word. -/
def Obligations.LineSumsToWidth : Prop :=
  ∀ s t : State, Inv s → s.busy = true → engineStep s = .next t → t.phase = .done → t.kind = .line →
    (resultRuns t).sum = s.width ∧ resultRuns t ≠ [] ∧ t.outCount = (resultRuns t).length ∧
    t.outCur = t.cur ∧
    ∃ i rest tab, currentTable s = some tab ∧ decode tab (remaining s) = .code i rest ∧
      t.outCur = s.cur + (encode i).length

/-- Every engine step of a running command consumes at least one bit, within the stream, or ends the command
(R214); the cursor never decreases and never exceeds N (R42 (e)). -/
def Obligations.StepConsumesOrEnds : Prop :=
  ∀ s t : State, Inv s → s.busy = true → engineStep s = .next t →
    s.cur ≤ t.cur ∧ t.cur ≤ s.mem.stream.length ∧ (t.phase = .done ∨ s.cur < t.cur)

/-- HEADLINE. A running command ends, in DONE, after at most N − CUR + 1 steps, unless a parameter bound
refuses it (R214, R9); it never faults. That the machine stays in DONE for the steps left over is the model's
inference (log 23). -/
def Obligations.CommandEnds : Prop :=
  ∀ s : State, Inv s → s.busy = true → s.hostQueue = [] →
    (∃ t, Sys2Proof.core.run (s.mem.stream.length - s.cur + 1) s = .next t ∧ t.phase = .done) ∨
    (∃ r, Sys2Proof.core.run (s.mem.stream.length - s.cur + 1) s = .refused r ∧
      (r = .cursorExceeded ∨ r = .positionExceeded ∨ r = .runBufferFull))

/-- HEADLINE. A command's answer depends on nothing but its inputs (R40, R217): two engines that agree on the
stream, the input registers and the parameters answer alike after any number of steps, whatever else
their states hold. -/
def Obligations.SameInputsSameAnswer : Prop :=
  ∀ s t : State, SameInputs s t → (s.phase = .idle ∨ s.phase = .done) →
    (t.phase = .idle ∨ t.phase = .done) → ∀ n : Nat,
    answerOf (andThen (strobeStart s) (runCommand n)) = answerOf (andThen (strobeStart t) (runCommand n))

/-- R203: Group3_2D and Group4 decode a line the same way: neither a code word's meaning nor a whole engine step
(its table, its decoding and a failed walk's report included) reads CMODE. -/
def Obligations.CodingModeOnlyFrames : Prop :=
  (∀ (i : Instr) (s : State) (m : CodingMode),
    exec i { s with cmode := m } =
      (match exec i s with
        | .next t => .next { t with cmode := m }
        | .fault f => .fault f
        | .refused r => .refused r)) ∧
  (∀ (s : State) (m : CodingMode),
    engineStep { s with cmode := m } =
      (match engineStep s with
        | .next t => .next { t with cmode := m }
        | .fault f => .fault f
        | .refused r => .refused r))

/-- R153: makeup codes of the run colour and then one terminating code are one run of length Σ makeup + n. -/
def Obligations.RunIsMakeupsPlusTerminating : Prop :=
  ∀ (c : Color) (ms : List (Instr × Nat × Nat)) (i : Instr) (n w : Nat) (s : State),
    (∀ m ∈ ms, (m.1, c, m.2.1, m.2.2) ∈ makeupCodes) → (i, c, n, w) ∈ termCodes →
    s.phase = .run1D → s.color = c → s.racc = 0 →
    let L := (ms.map (fun m => m.2.1)).sum + n
    let bits := (ms.map (fun m => m.2.2)).sum + w
    FitsCur bits s → FitsAcc (s.rs + L) s → RoomForRun s → s.rs + L < s.width →
    execAll (ms.map (fun m => m.1) ++ [i]) s =
      .next { s with cur := s.cur + bits, runs := s.runs ++ [L], rs := s.rs + L, color := c.flip }

/-- R103: the expansion of a run of length n: its values sum to n, the last is a terminating value, the others
are makeup values, and each is a code word of the colour. -/
def Obligations.ExpansionSums : Prop :=
  ∀ (c : Color) (n : Nat),
    (expandValues n).sum = n ∧
    (∃ ms, expandValues n = ms ++ [n % 64] ∧ ∀ v ∈ ms, v % 64 = 0 ∧ 64 ≤ v ∧ v ≤ 2560) ∧
    (expandRun c n).length = (expandValues n).length ∧
    (∀ i ∈ expandRun c n, i.table = Table.ofColor c)

/-- HEADLINE. What the assembler's W(n) and B(n) write, the machine decodes as one run of exactly n: from the
code words of a canonical run in the stream, the engine's steps emit that run, and complete the line
where it reaches W (R103, R153, R205). -/
def Obligations.CanonicalRunDecodes : Prop :=
  ∀ (c : Color) (n : Nat) (s : State) (rest : Bits),
    s.phase = .run1D → s.color = c → s.racc = 0 → s.hostQueue = [] →
    remaining s = encodeAll (expandRun c n) ++ rest →
    FitsCur (encodeAll (expandRun c n)).length s → FitsAcc (s.rs + n) s → RoomForRun s →
    s.rs + n ≤ s.width →
    Sys2Proof.core.run (expandRun c n).length s = .next (
      if s.rs + n = s.width then
        ended .line { s with cur := s.cur + (encodeAll (expandRun c n)).length,
                             runs := s.runs ++ [n], rs := s.rs + n, color := c.flip }
      else
        { s with cur := s.cur + (encodeAll (expandRun c n)).length,
                 runs := s.runs ++ [n], rs := s.rs + n, color := c.flip })

/-! ## The reference line -/

/-- R170: the colour of a reference pixel is that of the first run whose end is past it, White for an even place
in the list; so the colours are the pixels of the run list (R11); the pixel before the line is White. -/
def Obligations.ReferencePixels : Prop :=
  (∀ (ref : List Nat) (i j : Nat), i < (ref.take (j + 1)).sum → (∀ j' < j, (ref.take (j' + 1)).sum ≤ i) →
    refpx ref (i : Int) = if j % 2 = 0 then Color.white else Color.black) ∧
  (∀ (ref : List Nat) (i : Nat), i < ref.sum → (pixels ref)[i]? = some (refpx ref (i : Int))) ∧
  (∀ ref : List Nat, (pixels ref).length = ref.sum) ∧
  (∀ ref : List Nat, refpx ref (-1) = .white)

/-- R171: the changing elements, and that a zero-length run makes none. -/
def Obligations.ChangingElements : Prop :=
  (∀ (ref : List Nat) (W i : Nat), i ∈ changingElements ref W ↔
    i < W ∧ refpx ref (i : Int) ≠ refpx ref ((i : Int) - 1)) ∧
  (∀ (a b : List Nat) (x y W : Nat),
    changingElements (a ++ x :: 0 :: y :: b) W = changingElements (a ++ (x + y) :: b) W)

/-- R172: b1 is the least changing element right of a0 whose colour is not COLOR, or W if there is none. -/
def Obligations.B1IsLeast : Prop :=
  ∀ s : State,
    (∀ i ∈ changingElements s.refLine s.width, s.a0 < (i : Int) → refpx s.refLine (i : Int) ≠ s.color →
      b1 s ≤ i) ∧
    ((b1 s ∈ changingElements s.refLine s.width ∧ s.a0 < (b1 s : Int) ∧
        refpx s.refLine (b1 s : Int) ≠ s.color) ∨
      (b1 s = s.width ∧ ∀ i ∈ changingElements s.refLine s.width,
        ¬ (s.a0 < (i : Int) ∧ refpx s.refLine (i : Int) ≠ s.color)))

/-- R173: b2 is the least changing element right of b1, or W if there is none; `A0 < b1 ≤ b2 ≤ W`, or both are
W. -/
def Obligations.B2FollowsB1 : Prop :=
  ∀ s : State,
    (∀ i ∈ changingElements s.refLine s.width, b1 s < i → b2 s ≤ i) ∧
    ((b2 s ∈ changingElements s.refLine s.width ∧ b1 s < b2 s) ∨
      (b2 s = s.width ∧ ∀ i ∈ changingElements s.refLine s.width, ¬ b1 s < i)) ∧
    ((s.a0 < (b1 s : Int) ∧ b1 s ≤ b2 s ∧ b2 s ≤ s.width) ∨ (b1 s = s.width ∧ b2 s = s.width))
end

