-- ==== Sys2Proof/Laws/Codes.lean ====
section
/-! SUPPORT. The rows of the three code tables: each belongs to its table, is the encoder's word, and no row's word
begins another's (spec/30_encoding.md R90, R97). -/

namespace Sys2Proof

/-- Two rows, neither a prefix of the other. -/
abbrev CodeRow.Apart (a b : CodeRow) : Prop :=
  a.word.isPrefixOf b.word = false ∧ b.word.isPrefixOf a.word = false

@[simp] theorem toBits_length (n v : Nat) : (toBits n v).length = n := by
  induction n with
  | zero => rfl
  | succ n ih => simp [toBits, ih]

theorem CodeRow.word_length (r : CodeRow) : r.word.length = r.width := toBits_length _ _

/-- Every row of a table is a code word of that table. -/
theorem codeRows_table : ∀ t, ∀ row ∈ codeRows t, row.instr.table = t := by
  intro t; cases t <;> decide

/-- Every row's word is the encoder's. -/
theorem codeRows_word : ∀ t, ∀ row ∈ codeRows t, row.word = encode row.instr := by
  intro t; cases t <;> decide

/-- Every row's value is below 2^12. -/
theorem codeRows_value : ∀ t, ∀ row ∈ codeRows t, row.value < 4096 := by
  intro t; cases t <;> decide

theorem modeRows_apart : (codeRows .mode).Pairwise CodeRow.Apart := by decide +kernel
theorem whiteRows_apart : (codeRows .white).Pairwise CodeRow.Apart := by decide +kernel
theorem blackRows_apart : (codeRows .black).Pairwise CodeRow.Apart := by decide +kernel

end Sys2Proof
end

