-- ==== Sys2Proof/Laws/State.lean ====
section
/-! SUPPORT. One lemma for each field of each named update of the state, and for the memory update of `Finish`,
so that no later proof unfolds a record update. -/

namespace Sys2Proof.Machine

@[simp] theorem storeOutRuns_stream (r : List Nat) (m : Memory) : (storeOutRuns r m).stream = m.stream := rfl
@[simp] theorem storeOutRuns_inRef (r : List Nat) (m : Memory) : (storeOutRuns r m).inRef = m.inRef := rfl
@[simp] theorem storeOutRuns_outRuns (r : List Nat) (m : Memory) :
    (storeOutRuns r m).outRuns = r ++ m.outRuns.drop r.length := rfl

/-! ## `State.advance` -/

@[simp] theorem advance_cur (n : Nat) (s : State) :
    (s.advance n).cur = s.cur + n := rfl
@[simp] theorem advance_phase (n : Nat) (s : State) :
    (s.advance n).phase = s.phase := rfl
@[simp] theorem advance_color (n : Nat) (s : State) :
    (s.advance n).color = s.color := rfl
@[simp] theorem advance_a0 (n : Nat) (s : State) :
    (s.advance n).a0 = s.a0 := rfl
@[simp] theorem advance_rs (n : Nat) (s : State) :
    (s.advance n).rs = s.rs := rfl
@[simp] theorem advance_racc (n : Nat) (s : State) :
    (s.advance n).racc = s.racc := rfl
@[simp] theorem advance_width (n : Nat) (s : State) :
    (s.advance n).width = s.width := rfl
@[simp] theorem advance_cmode (n : Nat) (s : State) :
    (s.advance n).cmode = s.cmode := rfl
@[simp] theorem advance_runs (n : Nat) (s : State) :
    (s.advance n).runs = s.runs := rfl
@[simp] theorem advance_refLine (n : Nat) (s : State) :
    (s.advance n).refLine = s.refLine := rfl
@[simp] theorem advance_inCur (n : Nat) (s : State) :
    (s.advance n).inCur = s.inCur := rfl
@[simp] theorem advance_inWidth (n : Nat) (s : State) :
    (s.advance n).inWidth = s.inWidth := rfl
@[simp] theorem advance_inMode (n : Nat) (s : State) :
    (s.advance n).inMode = s.inMode := rfl
@[simp] theorem advance_inRefCount (n : Nat) (s : State) :
    (s.advance n).inRefCount = s.inRefCount := rfl
@[simp] theorem advance_inWritten (n : Nat) (s : State) :
    (s.advance n).inWritten = s.inWritten := rfl
@[simp] theorem advance_kind (n : Nat) (s : State) :
    (s.advance n).kind = s.kind := rfl
@[simp] theorem advance_err (n : Nat) (s : State) :
    (s.advance n).err = s.err := rfl
@[simp] theorem advance_outCur (n : Nat) (s : State) :
    (s.advance n).outCur = s.outCur := rfl
@[simp] theorem advance_outCount (n : Nat) (s : State) :
    (s.advance n).outCount = s.outCount := rfl
@[simp] theorem advance_errOffset (n : Nat) (s : State) :
    (s.advance n).errOffset = s.errOffset := rfl
@[simp] theorem advance_errAcc (n : Nat) (s : State) :
    (s.advance n).errAcc = s.errAcc := rfl
@[simp] theorem advance_errExp (n : Nat) (s : State) :
    (s.advance n).errExp = s.errExp := rfl
@[simp] theorem advance_mem (n : Nat) (s : State) :
    (s.advance n).mem = s.mem := rfl
@[simp] theorem advance_params (n : Nat) (s : State) :
    (s.advance n).params = s.params := rfl
@[simp] theorem advance_hostQueue (n : Nat) (s : State) :
    (s.advance n).hostQueue = s.hostQueue := rfl
@[simp] theorem advance_freeIndex (n : Nat) (s : State) :
    (s.advance n).freeIndex = s.freeIndex := rfl
@[simp] theorem advance_readData (n : Nat) (s : State) :
    (s.advance n).readData = s.readData := rfl
@[simp] theorem advance_doneSeen (n : Nat) (s : State) :
    (s.advance n).doneSeen = s.doneSeen := rfl

/-! ## `State.appendRun` -/

@[simp] theorem appendRun_cur (n : Nat) (s : State) :
    (s.appendRun n).cur = s.cur := rfl
@[simp] theorem appendRun_phase (n : Nat) (s : State) :
    (s.appendRun n).phase = s.phase := rfl
@[simp] theorem appendRun_color (n : Nat) (s : State) :
    (s.appendRun n).color = s.color := rfl
@[simp] theorem appendRun_a0 (n : Nat) (s : State) :
    (s.appendRun n).a0 = s.a0 := rfl
@[simp] theorem appendRun_rs (n : Nat) (s : State) :
    (s.appendRun n).rs = s.rs := rfl
@[simp] theorem appendRun_racc (n : Nat) (s : State) :
    (s.appendRun n).racc = s.racc := rfl
@[simp] theorem appendRun_width (n : Nat) (s : State) :
    (s.appendRun n).width = s.width := rfl
@[simp] theorem appendRun_cmode (n : Nat) (s : State) :
    (s.appendRun n).cmode = s.cmode := rfl
@[simp] theorem appendRun_runs (n : Nat) (s : State) :
    (s.appendRun n).runs = s.runs ++ [n] := rfl
@[simp] theorem appendRun_refLine (n : Nat) (s : State) :
    (s.appendRun n).refLine = s.refLine := rfl
@[simp] theorem appendRun_inCur (n : Nat) (s : State) :
    (s.appendRun n).inCur = s.inCur := rfl
@[simp] theorem appendRun_inWidth (n : Nat) (s : State) :
    (s.appendRun n).inWidth = s.inWidth := rfl
@[simp] theorem appendRun_inMode (n : Nat) (s : State) :
    (s.appendRun n).inMode = s.inMode := rfl
@[simp] theorem appendRun_inRefCount (n : Nat) (s : State) :
    (s.appendRun n).inRefCount = s.inRefCount := rfl
@[simp] theorem appendRun_inWritten (n : Nat) (s : State) :
    (s.appendRun n).inWritten = s.inWritten := rfl
@[simp] theorem appendRun_kind (n : Nat) (s : State) :
    (s.appendRun n).kind = s.kind := rfl
@[simp] theorem appendRun_err (n : Nat) (s : State) :
    (s.appendRun n).err = s.err := rfl
@[simp] theorem appendRun_outCur (n : Nat) (s : State) :
    (s.appendRun n).outCur = s.outCur := rfl
@[simp] theorem appendRun_outCount (n : Nat) (s : State) :
    (s.appendRun n).outCount = s.outCount := rfl
@[simp] theorem appendRun_errOffset (n : Nat) (s : State) :
    (s.appendRun n).errOffset = s.errOffset := rfl
@[simp] theorem appendRun_errAcc (n : Nat) (s : State) :
    (s.appendRun n).errAcc = s.errAcc := rfl
@[simp] theorem appendRun_errExp (n : Nat) (s : State) :
    (s.appendRun n).errExp = s.errExp := rfl
@[simp] theorem appendRun_mem (n : Nat) (s : State) :
    (s.appendRun n).mem = s.mem := rfl
@[simp] theorem appendRun_params (n : Nat) (s : State) :
    (s.appendRun n).params = s.params := rfl
@[simp] theorem appendRun_hostQueue (n : Nat) (s : State) :
    (s.appendRun n).hostQueue = s.hostQueue := rfl
@[simp] theorem appendRun_freeIndex (n : Nat) (s : State) :
    (s.appendRun n).freeIndex = s.freeIndex := rfl
@[simp] theorem appendRun_readData (n : Nat) (s : State) :
    (s.appendRun n).readData = s.readData := rfl
@[simp] theorem appendRun_doneSeen (n : Nat) (s : State) :
    (s.appendRun n).doneSeen = s.doneSeen := rfl

/-! ## `State.finish` -/

@[simp] theorem finish_cur (k : Kind) (s : State) :
    (s.finish k).cur = s.cur := rfl
@[simp] theorem finish_phase (k : Kind) (s : State) :
    (s.finish k).phase = .done := rfl
@[simp] theorem finish_color (k : Kind) (s : State) :
    (s.finish k).color = s.color := rfl
@[simp] theorem finish_a0 (k : Kind) (s : State) :
    (s.finish k).a0 = s.a0 := rfl
@[simp] theorem finish_rs (k : Kind) (s : State) :
    (s.finish k).rs = s.rs := rfl
@[simp] theorem finish_racc (k : Kind) (s : State) :
    (s.finish k).racc = s.racc := rfl
@[simp] theorem finish_width (k : Kind) (s : State) :
    (s.finish k).width = s.width := rfl
@[simp] theorem finish_cmode (k : Kind) (s : State) :
    (s.finish k).cmode = s.cmode := rfl
@[simp] theorem finish_runs (k : Kind) (s : State) :
    (s.finish k).runs = s.runs := rfl
@[simp] theorem finish_refLine (k : Kind) (s : State) :
    (s.finish k).refLine = s.refLine := rfl
@[simp] theorem finish_inCur (k : Kind) (s : State) :
    (s.finish k).inCur = s.inCur := rfl
@[simp] theorem finish_inWidth (k : Kind) (s : State) :
    (s.finish k).inWidth = s.inWidth := rfl
@[simp] theorem finish_inMode (k : Kind) (s : State) :
    (s.finish k).inMode = s.inMode := rfl
@[simp] theorem finish_inRefCount (k : Kind) (s : State) :
    (s.finish k).inRefCount = s.inRefCount := rfl
@[simp] theorem finish_inWritten (k : Kind) (s : State) :
    (s.finish k).inWritten = s.inWritten := rfl
@[simp] theorem finish_kind (k : Kind) (s : State) :
    (s.finish k).kind = k := rfl
@[simp] theorem finish_err (k : Kind) (s : State) :
    (s.finish k).err = s.err := rfl
@[simp] theorem finish_outCur (k : Kind) (s : State) :
    (s.finish k).outCur = s.cur := rfl
@[simp] theorem finish_outCount (k : Kind) (s : State) :
    (s.finish k).outCount = s.runs.length := rfl
@[simp] theorem finish_errOffset (k : Kind) (s : State) :
    (s.finish k).errOffset = s.errOffset := rfl
@[simp] theorem finish_errAcc (k : Kind) (s : State) :
    (s.finish k).errAcc = s.errAcc := rfl
@[simp] theorem finish_errExp (k : Kind) (s : State) :
    (s.finish k).errExp = s.errExp := rfl
@[simp] theorem finish_mem (k : Kind) (s : State) :
    (s.finish k).mem = storeOutRuns s.runs s.mem := rfl
@[simp] theorem finish_params (k : Kind) (s : State) :
    (s.finish k).params = s.params := rfl
@[simp] theorem finish_hostQueue (k : Kind) (s : State) :
    (s.finish k).hostQueue = s.hostQueue := rfl
@[simp] theorem finish_freeIndex (k : Kind) (s : State) :
    (s.finish k).freeIndex = s.freeIndex := rfl
@[simp] theorem finish_readData (k : Kind) (s : State) :
    (s.finish k).readData = s.readData := rfl
@[simp] theorem finish_doneSeen (k : Kind) (s : State) :
    (s.finish k).doneSeen = s.doneSeen := rfl

/-! ## `State.recordErr` -/

@[simp] theorem recordErr_cur (e : ErrInfo) (s : State) :
    (s.recordErr e).cur = s.cur := rfl
@[simp] theorem recordErr_phase (e : ErrInfo) (s : State) :
    (s.recordErr e).phase = s.phase := rfl
@[simp] theorem recordErr_color (e : ErrInfo) (s : State) :
    (s.recordErr e).color = s.color := rfl
@[simp] theorem recordErr_a0 (e : ErrInfo) (s : State) :
    (s.recordErr e).a0 = s.a0 := rfl
@[simp] theorem recordErr_rs (e : ErrInfo) (s : State) :
    (s.recordErr e).rs = s.rs := rfl
@[simp] theorem recordErr_racc (e : ErrInfo) (s : State) :
    (s.recordErr e).racc = s.racc := rfl
@[simp] theorem recordErr_width (e : ErrInfo) (s : State) :
    (s.recordErr e).width = s.width := rfl
@[simp] theorem recordErr_cmode (e : ErrInfo) (s : State) :
    (s.recordErr e).cmode = s.cmode := rfl
@[simp] theorem recordErr_runs (e : ErrInfo) (s : State) :
    (s.recordErr e).runs = s.runs := rfl
@[simp] theorem recordErr_refLine (e : ErrInfo) (s : State) :
    (s.recordErr e).refLine = s.refLine := rfl
@[simp] theorem recordErr_inCur (e : ErrInfo) (s : State) :
    (s.recordErr e).inCur = s.inCur := rfl
@[simp] theorem recordErr_inWidth (e : ErrInfo) (s : State) :
    (s.recordErr e).inWidth = s.inWidth := rfl
@[simp] theorem recordErr_inMode (e : ErrInfo) (s : State) :
    (s.recordErr e).inMode = s.inMode := rfl
@[simp] theorem recordErr_inRefCount (e : ErrInfo) (s : State) :
    (s.recordErr e).inRefCount = s.inRefCount := rfl
@[simp] theorem recordErr_inWritten (e : ErrInfo) (s : State) :
    (s.recordErr e).inWritten = s.inWritten := rfl
@[simp] theorem recordErr_kind (e : ErrInfo) (s : State) :
    (s.recordErr e).kind = s.kind := rfl
@[simp] theorem recordErr_err (e : ErrInfo) (s : State) :
    (s.recordErr e).err = e.code := rfl
@[simp] theorem recordErr_outCur (e : ErrInfo) (s : State) :
    (s.recordErr e).outCur = s.outCur := rfl
@[simp] theorem recordErr_outCount (e : ErrInfo) (s : State) :
    (s.recordErr e).outCount = s.outCount := rfl
@[simp] theorem recordErr_errOffset (e : ErrInfo) (s : State) :
    (s.recordErr e).errOffset = e.offsetOr s.errOffset := rfl
@[simp] theorem recordErr_errAcc (e : ErrInfo) (s : State) :
    (s.recordErr e).errAcc = e.accOr s.errAcc := rfl
@[simp] theorem recordErr_errExp (e : ErrInfo) (s : State) :
    (s.recordErr e).errExp = e.expOr s.errExp := rfl
@[simp] theorem recordErr_mem (e : ErrInfo) (s : State) :
    (s.recordErr e).mem = s.mem := rfl
@[simp] theorem recordErr_params (e : ErrInfo) (s : State) :
    (s.recordErr e).params = s.params := rfl
@[simp] theorem recordErr_hostQueue (e : ErrInfo) (s : State) :
    (s.recordErr e).hostQueue = s.hostQueue := rfl
@[simp] theorem recordErr_freeIndex (e : ErrInfo) (s : State) :
    (s.recordErr e).freeIndex = s.freeIndex := rfl
@[simp] theorem recordErr_readData (e : ErrInfo) (s : State) :
    (s.recordErr e).readData = s.readData := rfl
@[simp] theorem recordErr_doneSeen (e : ErrInfo) (s : State) :
    (s.recordErr e).doneSeen = s.doneSeen := rfl

/-! ## `State.raise` -/

@[simp] theorem raise_cur (e : ErrInfo) (s : State) :
    (s.raise e).cur = s.cur := rfl
@[simp] theorem raise_phase (e : ErrInfo) (s : State) :
    (s.raise e).phase = .done := rfl
@[simp] theorem raise_color (e : ErrInfo) (s : State) :
    (s.raise e).color = s.color := rfl
@[simp] theorem raise_a0 (e : ErrInfo) (s : State) :
    (s.raise e).a0 = s.a0 := rfl
@[simp] theorem raise_rs (e : ErrInfo) (s : State) :
    (s.raise e).rs = s.rs := rfl
@[simp] theorem raise_racc (e : ErrInfo) (s : State) :
    (s.raise e).racc = s.racc := rfl
@[simp] theorem raise_width (e : ErrInfo) (s : State) :
    (s.raise e).width = s.width := rfl
@[simp] theorem raise_cmode (e : ErrInfo) (s : State) :
    (s.raise e).cmode = s.cmode := rfl
@[simp] theorem raise_runs (e : ErrInfo) (s : State) :
    (s.raise e).runs = s.runs := rfl
@[simp] theorem raise_refLine (e : ErrInfo) (s : State) :
    (s.raise e).refLine = s.refLine := rfl
@[simp] theorem raise_inCur (e : ErrInfo) (s : State) :
    (s.raise e).inCur = s.inCur := rfl
@[simp] theorem raise_inWidth (e : ErrInfo) (s : State) :
    (s.raise e).inWidth = s.inWidth := rfl
@[simp] theorem raise_inMode (e : ErrInfo) (s : State) :
    (s.raise e).inMode = s.inMode := rfl
@[simp] theorem raise_inRefCount (e : ErrInfo) (s : State) :
    (s.raise e).inRefCount = s.inRefCount := rfl
@[simp] theorem raise_inWritten (e : ErrInfo) (s : State) :
    (s.raise e).inWritten = s.inWritten := rfl
@[simp] theorem raise_kind (e : ErrInfo) (s : State) :
    (s.raise e).kind = .error := rfl
@[simp] theorem raise_err (e : ErrInfo) (s : State) :
    (s.raise e).err = e.code := rfl
@[simp] theorem raise_outCur (e : ErrInfo) (s : State) :
    (s.raise e).outCur = s.cur := rfl
@[simp] theorem raise_outCount (e : ErrInfo) (s : State) :
    (s.raise e).outCount = s.runs.length := rfl
@[simp] theorem raise_errOffset (e : ErrInfo) (s : State) :
    (s.raise e).errOffset = e.offsetOr s.errOffset := rfl
@[simp] theorem raise_errAcc (e : ErrInfo) (s : State) :
    (s.raise e).errAcc = e.accOr s.errAcc := rfl
@[simp] theorem raise_errExp (e : ErrInfo) (s : State) :
    (s.raise e).errExp = e.expOr s.errExp := rfl
@[simp] theorem raise_mem (e : ErrInfo) (s : State) :
    (s.raise e).mem = storeOutRuns s.runs s.mem := rfl
@[simp] theorem raise_params (e : ErrInfo) (s : State) :
    (s.raise e).params = s.params := rfl
@[simp] theorem raise_hostQueue (e : ErrInfo) (s : State) :
    (s.raise e).hostQueue = s.hostQueue := rfl
@[simp] theorem raise_freeIndex (e : ErrInfo) (s : State) :
    (s.raise e).freeIndex = s.freeIndex := rfl
@[simp] theorem raise_readData (e : ErrInfo) (s : State) :
    (s.raise e).readData = s.readData := rfl
@[simp] theorem raise_doneSeen (e : ErrInfo) (s : State) :
    (s.raise e).doneSeen = s.doneSeen := rfl

/-! ## `State.ackDone` -/

@[simp] theorem ackDone_cur (s : State) :
    (s.ackDone).cur = s.cur := rfl
@[simp] theorem ackDone_phase (s : State) :
    (s.ackDone).phase = .idle := rfl
@[simp] theorem ackDone_color (s : State) :
    (s.ackDone).color = s.color := rfl
@[simp] theorem ackDone_a0 (s : State) :
    (s.ackDone).a0 = s.a0 := rfl
@[simp] theorem ackDone_rs (s : State) :
    (s.ackDone).rs = s.rs := rfl
@[simp] theorem ackDone_racc (s : State) :
    (s.ackDone).racc = s.racc := rfl
@[simp] theorem ackDone_width (s : State) :
    (s.ackDone).width = s.width := rfl
@[simp] theorem ackDone_cmode (s : State) :
    (s.ackDone).cmode = s.cmode := rfl
@[simp] theorem ackDone_runs (s : State) :
    (s.ackDone).runs = s.runs := rfl
@[simp] theorem ackDone_refLine (s : State) :
    (s.ackDone).refLine = s.refLine := rfl
@[simp] theorem ackDone_inCur (s : State) :
    (s.ackDone).inCur = s.inCur := rfl
@[simp] theorem ackDone_inWidth (s : State) :
    (s.ackDone).inWidth = s.inWidth := rfl
@[simp] theorem ackDone_inMode (s : State) :
    (s.ackDone).inMode = s.inMode := rfl
@[simp] theorem ackDone_inRefCount (s : State) :
    (s.ackDone).inRefCount = s.inRefCount := rfl
@[simp] theorem ackDone_inWritten (s : State) :
    (s.ackDone).inWritten = s.inWritten := rfl
@[simp] theorem ackDone_kind (s : State) :
    (s.ackDone).kind = .line := rfl
@[simp] theorem ackDone_err (s : State) :
    (s.ackDone).err = .none := rfl
@[simp] theorem ackDone_outCur (s : State) :
    (s.ackDone).outCur = s.outCur := rfl
@[simp] theorem ackDone_outCount (s : State) :
    (s.ackDone).outCount = s.outCount := rfl
@[simp] theorem ackDone_errOffset (s : State) :
    (s.ackDone).errOffset = s.errOffset := rfl
@[simp] theorem ackDone_errAcc (s : State) :
    (s.ackDone).errAcc = s.errAcc := rfl
@[simp] theorem ackDone_errExp (s : State) :
    (s.ackDone).errExp = s.errExp := rfl
@[simp] theorem ackDone_mem (s : State) :
    (s.ackDone).mem = s.mem := rfl
@[simp] theorem ackDone_params (s : State) :
    (s.ackDone).params = s.params := rfl
@[simp] theorem ackDone_hostQueue (s : State) :
    (s.ackDone).hostQueue = s.hostQueue := rfl
@[simp] theorem ackDone_freeIndex (s : State) :
    (s.ackDone).freeIndex = s.freeIndex := rfl
@[simp] theorem ackDone_readData (s : State) :
    (s.ackDone).readData = s.readData := rfl
@[simp] theorem ackDone_doneSeen (s : State) :
    (s.ackDone).doneSeen = false := rfl

/-! ## `State.abort` -/

@[simp] theorem abort_cur (s : State) :
    (s.abort).cur = s.cur := rfl
@[simp] theorem abort_phase (s : State) :
    (s.abort).phase = .idle := rfl
@[simp] theorem abort_color (s : State) :
    (s.abort).color = s.color := rfl
@[simp] theorem abort_a0 (s : State) :
    (s.abort).a0 = s.a0 := rfl
@[simp] theorem abort_rs (s : State) :
    (s.abort).rs = s.rs := rfl
@[simp] theorem abort_racc (s : State) :
    (s.abort).racc = s.racc := rfl
@[simp] theorem abort_width (s : State) :
    (s.abort).width = s.width := rfl
@[simp] theorem abort_cmode (s : State) :
    (s.abort).cmode = s.cmode := rfl
@[simp] theorem abort_runs (s : State) :
    (s.abort).runs = s.runs := rfl
@[simp] theorem abort_refLine (s : State) :
    (s.abort).refLine = s.refLine := rfl
@[simp] theorem abort_inCur (s : State) :
    (s.abort).inCur = s.inCur := rfl
@[simp] theorem abort_inWidth (s : State) :
    (s.abort).inWidth = s.inWidth := rfl
@[simp] theorem abort_inMode (s : State) :
    (s.abort).inMode = s.inMode := rfl
@[simp] theorem abort_inRefCount (s : State) :
    (s.abort).inRefCount = s.inRefCount := rfl
@[simp] theorem abort_inWritten (s : State) :
    (s.abort).inWritten = s.inWritten := rfl
@[simp] theorem abort_kind (s : State) :
    (s.abort).kind = .line := rfl
@[simp] theorem abort_err (s : State) :
    (s.abort).err = .none := rfl
@[simp] theorem abort_outCur (s : State) :
    (s.abort).outCur = s.outCur := rfl
@[simp] theorem abort_outCount (s : State) :
    (s.abort).outCount = s.outCount := rfl
@[simp] theorem abort_errOffset (s : State) :
    (s.abort).errOffset = s.errOffset := rfl
@[simp] theorem abort_errAcc (s : State) :
    (s.abort).errAcc = s.errAcc := rfl
@[simp] theorem abort_errExp (s : State) :
    (s.abort).errExp = s.errExp := rfl
@[simp] theorem abort_mem (s : State) :
    (s.abort).mem = s.mem := rfl
@[simp] theorem abort_params (s : State) :
    (s.abort).params = s.params := rfl
@[simp] theorem abort_hostQueue (s : State) :
    (s.abort).hostQueue = s.hostQueue := rfl
@[simp] theorem abort_freeIndex (s : State) :
    (s.abort).freeIndex = s.freeIndex := rfl
@[simp] theorem abort_readData (s : State) :
    (s.abort).readData = s.readData := rfl
@[simp] theorem abort_doneSeen (s : State) :
    (s.abort).doneSeen = false := rfl

/-! ## `State.startCommand` -/

@[simp] theorem startCommand_cur (m : CodingMode) (ref : List Nat) (s : State) :
    (s.startCommand m ref).cur = s.inCur := rfl
@[simp] theorem startCommand_phase (m : CodingMode) (ref : List Nat) (s : State) :
    (s.startCommand m ref).phase = if m = .group3_1D then .run1D else .mode2D := rfl
@[simp] theorem startCommand_color (m : CodingMode) (ref : List Nat) (s : State) :
    (s.startCommand m ref).color = .white := rfl
@[simp] theorem startCommand_a0 (m : CodingMode) (ref : List Nat) (s : State) :
    (s.startCommand m ref).a0 = -1 := rfl
@[simp] theorem startCommand_rs (m : CodingMode) (ref : List Nat) (s : State) :
    (s.startCommand m ref).rs = 0 := rfl
@[simp] theorem startCommand_racc (m : CodingMode) (ref : List Nat) (s : State) :
    (s.startCommand m ref).racc = 0 := rfl
@[simp] theorem startCommand_width (m : CodingMode) (ref : List Nat) (s : State) :
    (s.startCommand m ref).width = s.inWidth := rfl
@[simp] theorem startCommand_cmode (m : CodingMode) (ref : List Nat) (s : State) :
    (s.startCommand m ref).cmode = m := rfl
@[simp] theorem startCommand_runs (m : CodingMode) (ref : List Nat) (s : State) :
    (s.startCommand m ref).runs = [] := rfl
@[simp] theorem startCommand_refLine (m : CodingMode) (ref : List Nat) (s : State) :
    (s.startCommand m ref).refLine = ref := rfl
@[simp] theorem startCommand_inCur (m : CodingMode) (ref : List Nat) (s : State) :
    (s.startCommand m ref).inCur = s.inCur := rfl
@[simp] theorem startCommand_inWidth (m : CodingMode) (ref : List Nat) (s : State) :
    (s.startCommand m ref).inWidth = s.inWidth := rfl
@[simp] theorem startCommand_inMode (m : CodingMode) (ref : List Nat) (s : State) :
    (s.startCommand m ref).inMode = s.inMode := rfl
@[simp] theorem startCommand_inRefCount (m : CodingMode) (ref : List Nat) (s : State) :
    (s.startCommand m ref).inRefCount = s.inRefCount := rfl
@[simp] theorem startCommand_inWritten (m : CodingMode) (ref : List Nat) (s : State) :
    (s.startCommand m ref).inWritten = s.inWritten := rfl
@[simp] theorem startCommand_kind (m : CodingMode) (ref : List Nat) (s : State) :
    (s.startCommand m ref).kind = .line := rfl
@[simp] theorem startCommand_err (m : CodingMode) (ref : List Nat) (s : State) :
    (s.startCommand m ref).err = .none := rfl
@[simp] theorem startCommand_outCur (m : CodingMode) (ref : List Nat) (s : State) :
    (s.startCommand m ref).outCur = 0 := rfl
@[simp] theorem startCommand_outCount (m : CodingMode) (ref : List Nat) (s : State) :
    (s.startCommand m ref).outCount = 0 := rfl
@[simp] theorem startCommand_errOffset (m : CodingMode) (ref : List Nat) (s : State) :
    (s.startCommand m ref).errOffset = 0 := rfl
@[simp] theorem startCommand_errAcc (m : CodingMode) (ref : List Nat) (s : State) :
    (s.startCommand m ref).errAcc = 0 := rfl
@[simp] theorem startCommand_errExp (m : CodingMode) (ref : List Nat) (s : State) :
    (s.startCommand m ref).errExp = 0 := rfl
@[simp] theorem startCommand_mem (m : CodingMode) (ref : List Nat) (s : State) :
    (s.startCommand m ref).mem = s.mem := rfl
@[simp] theorem startCommand_params (m : CodingMode) (ref : List Nat) (s : State) :
    (s.startCommand m ref).params = s.params := rfl
@[simp] theorem startCommand_hostQueue (m : CodingMode) (ref : List Nat) (s : State) :
    (s.startCommand m ref).hostQueue = s.hostQueue := rfl
@[simp] theorem startCommand_freeIndex (m : CodingMode) (ref : List Nat) (s : State) :
    (s.startCommand m ref).freeIndex = s.freeIndex := rfl
@[simp] theorem startCommand_readData (m : CodingMode) (ref : List Nat) (s : State) :
    (s.startCommand m ref).readData = s.readData := rfl
@[simp] theorem startCommand_doneSeen (m : CodingMode) (ref : List Nat) (s : State) :
    (s.startCommand m ref).doneSeen = false := rfl

/-! ## `State.answerRead` -/

@[simp] theorem answerRead_cur (r : HostReg) (s : State) :
    (s.answerRead r).cur = s.cur := rfl
@[simp] theorem answerRead_phase (r : HostReg) (s : State) :
    (s.answerRead r).phase = s.phase := rfl
@[simp] theorem answerRead_color (r : HostReg) (s : State) :
    (s.answerRead r).color = s.color := rfl
@[simp] theorem answerRead_a0 (r : HostReg) (s : State) :
    (s.answerRead r).a0 = s.a0 := rfl
@[simp] theorem answerRead_rs (r : HostReg) (s : State) :
    (s.answerRead r).rs = s.rs := rfl
@[simp] theorem answerRead_racc (r : HostReg) (s : State) :
    (s.answerRead r).racc = s.racc := rfl
@[simp] theorem answerRead_width (r : HostReg) (s : State) :
    (s.answerRead r).width = s.width := rfl
@[simp] theorem answerRead_cmode (r : HostReg) (s : State) :
    (s.answerRead r).cmode = s.cmode := rfl
@[simp] theorem answerRead_runs (r : HostReg) (s : State) :
    (s.answerRead r).runs = s.runs := rfl
@[simp] theorem answerRead_refLine (r : HostReg) (s : State) :
    (s.answerRead r).refLine = s.refLine := rfl
@[simp] theorem answerRead_inCur (r : HostReg) (s : State) :
    (s.answerRead r).inCur = s.inCur := rfl
@[simp] theorem answerRead_inWidth (r : HostReg) (s : State) :
    (s.answerRead r).inWidth = s.inWidth := rfl
@[simp] theorem answerRead_inMode (r : HostReg) (s : State) :
    (s.answerRead r).inMode = s.inMode := rfl
@[simp] theorem answerRead_inRefCount (r : HostReg) (s : State) :
    (s.answerRead r).inRefCount = s.inRefCount := rfl
@[simp] theorem answerRead_inWritten (r : HostReg) (s : State) :
    (s.answerRead r).inWritten = s.inWritten := rfl
@[simp] theorem answerRead_kind (r : HostReg) (s : State) :
    (s.answerRead r).kind = s.kind := rfl
@[simp] theorem answerRead_err (r : HostReg) (s : State) :
    (s.answerRead r).err = s.err := rfl
@[simp] theorem answerRead_outCur (r : HostReg) (s : State) :
    (s.answerRead r).outCur = s.outCur := rfl
@[simp] theorem answerRead_outCount (r : HostReg) (s : State) :
    (s.answerRead r).outCount = s.outCount := rfl
@[simp] theorem answerRead_errOffset (r : HostReg) (s : State) :
    (s.answerRead r).errOffset = s.errOffset := rfl
@[simp] theorem answerRead_errAcc (r : HostReg) (s : State) :
    (s.answerRead r).errAcc = s.errAcc := rfl
@[simp] theorem answerRead_errExp (r : HostReg) (s : State) :
    (s.answerRead r).errExp = s.errExp := rfl
@[simp] theorem answerRead_mem (r : HostReg) (s : State) :
    (s.answerRead r).mem = s.mem := rfl
@[simp] theorem answerRead_params (r : HostReg) (s : State) :
    (s.answerRead r).params = s.params := rfl
@[simp] theorem answerRead_hostQueue (r : HostReg) (s : State) :
    (s.answerRead r).hostQueue = s.hostQueue := rfl
@[simp] theorem answerRead_freeIndex (r : HostReg) (s : State) :
    (s.answerRead r).freeIndex = s.freeIndex := rfl
@[simp] theorem answerRead_readData (r : HostReg) (s : State) :
    (s.answerRead r).readData = hostValue r s := rfl
@[simp] theorem answerRead_doneSeen (r : HostReg) (s : State) :
    (s.answerRead r).doneSeen = (s.doneSeen || showsDone r s) := rfl

/-! ## `State.popAction` -/

@[simp] theorem popAction_cur (s : State) :
    (s.popAction).cur = s.cur := rfl
@[simp] theorem popAction_phase (s : State) :
    (s.popAction).phase = s.phase := rfl
@[simp] theorem popAction_color (s : State) :
    (s.popAction).color = s.color := rfl
@[simp] theorem popAction_a0 (s : State) :
    (s.popAction).a0 = s.a0 := rfl
@[simp] theorem popAction_rs (s : State) :
    (s.popAction).rs = s.rs := rfl
@[simp] theorem popAction_racc (s : State) :
    (s.popAction).racc = s.racc := rfl
@[simp] theorem popAction_width (s : State) :
    (s.popAction).width = s.width := rfl
@[simp] theorem popAction_cmode (s : State) :
    (s.popAction).cmode = s.cmode := rfl
@[simp] theorem popAction_runs (s : State) :
    (s.popAction).runs = s.runs := rfl
@[simp] theorem popAction_refLine (s : State) :
    (s.popAction).refLine = s.refLine := rfl
@[simp] theorem popAction_inCur (s : State) :
    (s.popAction).inCur = s.inCur := rfl
@[simp] theorem popAction_inWidth (s : State) :
    (s.popAction).inWidth = s.inWidth := rfl
@[simp] theorem popAction_inMode (s : State) :
    (s.popAction).inMode = s.inMode := rfl
@[simp] theorem popAction_inRefCount (s : State) :
    (s.popAction).inRefCount = s.inRefCount := rfl
@[simp] theorem popAction_inWritten (s : State) :
    (s.popAction).inWritten = s.inWritten := rfl
@[simp] theorem popAction_kind (s : State) :
    (s.popAction).kind = s.kind := rfl
@[simp] theorem popAction_err (s : State) :
    (s.popAction).err = s.err := rfl
@[simp] theorem popAction_outCur (s : State) :
    (s.popAction).outCur = s.outCur := rfl
@[simp] theorem popAction_outCount (s : State) :
    (s.popAction).outCount = s.outCount := rfl
@[simp] theorem popAction_errOffset (s : State) :
    (s.popAction).errOffset = s.errOffset := rfl
@[simp] theorem popAction_errAcc (s : State) :
    (s.popAction).errAcc = s.errAcc := rfl
@[simp] theorem popAction_errExp (s : State) :
    (s.popAction).errExp = s.errExp := rfl
@[simp] theorem popAction_mem (s : State) :
    (s.popAction).mem = s.mem := rfl
@[simp] theorem popAction_params (s : State) :
    (s.popAction).params = s.params := rfl
@[simp] theorem popAction_hostQueue (s : State) :
    (s.popAction).hostQueue = s.hostQueue.tail := rfl
@[simp] theorem popAction_freeIndex (s : State) :
    (s.popAction).freeIndex = s.freeIndex + 1 := rfl
@[simp] theorem popAction_readData (s : State) :
    (s.popAction).readData = s.readData := rfl
@[simp] theorem popAction_doneSeen (s : State) :
    (s.popAction).doneSeen = s.doneSeen := rfl

/-! ## `State.resetNow` -/

@[simp] theorem resetNow_cur (s : State) :
    (s.resetNow).cur = State.reset.cur := rfl
@[simp] theorem resetNow_phase (s : State) :
    (s.resetNow).phase = State.reset.phase := rfl
@[simp] theorem resetNow_color (s : State) :
    (s.resetNow).color = State.reset.color := rfl
@[simp] theorem resetNow_a0 (s : State) :
    (s.resetNow).a0 = State.reset.a0 := rfl
@[simp] theorem resetNow_rs (s : State) :
    (s.resetNow).rs = State.reset.rs := rfl
@[simp] theorem resetNow_racc (s : State) :
    (s.resetNow).racc = State.reset.racc := rfl
@[simp] theorem resetNow_width (s : State) :
    (s.resetNow).width = State.reset.width := rfl
@[simp] theorem resetNow_cmode (s : State) :
    (s.resetNow).cmode = State.reset.cmode := rfl
@[simp] theorem resetNow_runs (s : State) :
    (s.resetNow).runs = State.reset.runs := rfl
@[simp] theorem resetNow_refLine (s : State) :
    (s.resetNow).refLine = State.reset.refLine := rfl
@[simp] theorem resetNow_inCur (s : State) :
    (s.resetNow).inCur = State.reset.inCur := rfl
@[simp] theorem resetNow_inWidth (s : State) :
    (s.resetNow).inWidth = State.reset.inWidth := rfl
@[simp] theorem resetNow_inMode (s : State) :
    (s.resetNow).inMode = State.reset.inMode := rfl
@[simp] theorem resetNow_inRefCount (s : State) :
    (s.resetNow).inRefCount = State.reset.inRefCount := rfl
@[simp] theorem resetNow_inWritten (s : State) :
    (s.resetNow).inWritten = State.reset.inWritten := rfl
@[simp] theorem resetNow_kind (s : State) :
    (s.resetNow).kind = State.reset.kind := rfl
@[simp] theorem resetNow_err (s : State) :
    (s.resetNow).err = State.reset.err := rfl
@[simp] theorem resetNow_outCur (s : State) :
    (s.resetNow).outCur = State.reset.outCur := rfl
@[simp] theorem resetNow_outCount (s : State) :
    (s.resetNow).outCount = State.reset.outCount := rfl
@[simp] theorem resetNow_errOffset (s : State) :
    (s.resetNow).errOffset = State.reset.errOffset := rfl
@[simp] theorem resetNow_errAcc (s : State) :
    (s.resetNow).errAcc = State.reset.errAcc := rfl
@[simp] theorem resetNow_errExp (s : State) :
    (s.resetNow).errExp = State.reset.errExp := rfl
@[simp] theorem resetNow_mem (s : State) :
    (s.resetNow).mem = { stream := s.mem.stream, inRef := [], outRuns := [] } := rfl
@[simp] theorem resetNow_params (s : State) :
    (s.resetNow).params = s.params := rfl
@[simp] theorem resetNow_hostQueue (s : State) :
    (s.resetNow).hostQueue = s.hostQueue := rfl
@[simp] theorem resetNow_freeIndex (s : State) :
    (s.resetNow).freeIndex = s.freeIndex := rfl
@[simp] theorem resetNow_readData (s : State) :
    (s.resetNow).readData = s.readData := rfl
@[simp] theorem resetNow_doneSeen (s : State) :
    (s.resetNow).doneSeen = State.reset.doneSeen := rfl

end Sys2Proof.Machine
end

