-- ==== Sys2Proof/Laws/Ops.lean ====
section
/-! SUPPORT. For each shared operation, one lemma that says once when it answers a next state and which: the
provers cite these and unfold no operation. -/

namespace Sys2Proof.Machine

open Sys2Proof.Safety

@[simp] theorem andThen_next (s : State) (f : State → Result) : andThen (.next s) f = f s := rfl
@[simp] theorem andThen_fault (x : Fault) (f : State → Result) : andThen (.fault x) f = .fault x := rfl
@[simp] theorem andThen_refused (x : Refusal) (f : State → Result) :
    andThen (.refused x) f = .refused x := rfl

theorem andThen_eq_next {r : Result} {f : State → Result} {t : State} :
    andThen r f = .next t ↔ ∃ s, r = .next s ∧ f s = .next t := by
  cases r <;> simp

theorem andThen_eq_fault {r : Result} {f : State → Result} {x : Fault} :
    andThen r f = .fault x ↔ r = .fault x ∨ ∃ s, r = .next s ∧ f s = .fault x := by
  cases r <;> simp

theorem andThen_eq_refused {r : Result} {f : State → Result} {x : Refusal} :
    andThen r f = .refused x ↔ r = .refused x ∨ ∃ s, r = .next s ∧ f s = .refused x := by
  cases r <;> simp

theorem consume_of_fits {n : Nat} {s : State} (h : FitsCur n s) : consume n s = .next (s.advance n) :=
  if_pos h

theorem checkAcc_of_fits {v : Nat} {s : State} (h : FitsAcc v s) : checkAcc v s = .next s := if_pos h

theorem emit_of_room {n : Nat} {s : State} (h : RoomForRun s) : emit n s = .next (s.appendRun n) :=
  if_pos h

theorem consume_eq_next {n : Nat} {s t : State} :
    consume n s = .next t ↔ FitsCur n s ∧ t = s.advance n := by
  unfold consume; split <;> simp [FitsCur, *, eq_comm]

theorem consume_eq_refused {n : Nat} {s : State} {x : Refusal} :
    consume n s = .refused x ↔ ¬ FitsCur n s ∧ x = .cursorExceeded := by
  unfold consume; split <;> simp [FitsCur, *, eq_comm]

theorem checkAcc_eq_next {v : Nat} {s t : State} : checkAcc v s = .next t ↔ FitsAcc v s ∧ t = s := by
  unfold checkAcc; split <;> simp [FitsAcc, *, eq_comm]

theorem checkAcc_eq_refused {v : Nat} {s : State} {x : Refusal} :
    checkAcc v s = .refused x ↔ ¬ FitsAcc v s ∧ x = .positionExceeded := by
  unfold checkAcc; split <;> simp [FitsAcc, *, eq_comm]

theorem emit_eq_next {n : Nat} {s t : State} :
    emit n s = .next t ↔ RoomForRun s ∧ t = s.appendRun n := by
  unfold emit; split <;> simp [RoomForRun, *, eq_comm]

theorem emit_eq_refused {n : Nat} {s : State} {x : Refusal} :
    emit n s = .refused x ↔ ¬ RoomForRun s ∧ x = .runBufferFull := by
  unfold emit; split <;> simp [RoomForRun, *, eq_comm]

theorem emitTo_eq_next {a : Nat} {s t : State} :
    emitTo a s = .next t ↔ s.rs ≤ a ∧ RoomForRun s ∧ t = s.appendRun (a - s.rs) := by
  unfold emitTo; split <;> simp [*, emit_eq_next]

theorem emitTo_eq_refused {a : Nat} {s : State} {x : Refusal} :
    emitTo a s = .refused x ↔
      (¬ s.rs ≤ a ∧ x = .negativeRun) ∨ (s.rs ≤ a ∧ ¬ RoomForRun s ∧ x = .runBufferFull) := by
  unfold emitTo
  split
  · simp [*, emit_eq_refused]
  · simp [*, eq_comm]

theorem andThen_ne_fault {r : Result} {f : State → Result} {x : Fault} (hr : r ≠ .fault x)
    (hf : ∀ s, f s ≠ .fault x) : andThen r f ≠ .fault x := by
  cases r with
  | next s => exact hf s
  | fault y => exact hr
  | refused y => simp

theorem consume_ne_fault {n : Nat} {s : State} {x : Fault} : consume n s ≠ .fault x := by
  unfold consume; split <;> simp

theorem checkAcc_ne_fault {v : Nat} {s : State} {x : Fault} : checkAcc v s ≠ .fault x := by
  unfold checkAcc; split <;> simp

theorem emit_ne_fault {n : Nat} {s : State} {x : Fault} : emit n s ≠ .fault x := by
  unfold emit; split <;> simp

theorem emitTo_ne_fault {a : Nat} {s : State} {x : Fault} : emitTo a s ≠ .fault x := by
  unfold emitTo; split
  · exact emit_ne_fault
  · simp

theorem lineCheck2D_ne_fault {s : State} {x : Fault} : lineCheck2D s ≠ .fault x := by
  unfold lineCheck2D
  split
  · split
    · exact andThen_ne_fault emit_ne_fault (by simp)
    · simp
  · simp

theorem runComplete_ne_fault {L : Nat} {s : State} {x : Fault} : runComplete L s ≠ .fault x := by
  unfold runComplete
  split
  · refine andThen_ne_fault checkAcc_ne_fault fun s => ?_
    split
    · simp
    · exact andThen_ne_fault emit_ne_fault (by simp)
  · refine andThen_ne_fault checkAcc_ne_fault fun s => ?_
    split
    · simp
    · exact andThen_ne_fault emitTo_ne_fault (by simp)
  · refine andThen_ne_fault checkAcc_ne_fault fun s => ?_
    split
    · simp
    · exact andThen_ne_fault emit_ne_fault fun s => lineCheck2D_ne_fault
  all_goals simp

theorem runTerm_ne_fault {c : Color} {n w : Nat} {s : State} {x : Fault} : runTerm c n w s ≠ .fault x := by
  unfold runTerm
  split
  · exact andThen_ne_fault consume_ne_fault fun s =>
      andThen_ne_fault checkAcc_ne_fault fun s => runComplete_ne_fault
  · simp

theorem runMakeup_ne_fault {c : Color} {v w : Nat} {s : State} {x : Fault} :
    runMakeup c v w s ≠ .fault x := by
  unfold runMakeup
  split
  · exact andThen_ne_fault consume_ne_fault fun s => andThen_ne_fault checkAcc_ne_fault (by simp)
  · simp

theorem runEol_ne_fault {c : Color} {w : Nat} {s : State} {x : Fault} : runEol c w s ≠ .fault x := by
  unfold runEol
  split
  · exact andThen_ne_fault consume_ne_fault (by simp)
  · simp

theorem passMode_ne_fault {w : Nat} {s : State} {x : Fault} : passMode w s ≠ .fault x := by
  unfold passMode
  split
  · exact andThen_ne_fault consume_ne_fault fun s =>
      andThen_ne_fault checkAcc_ne_fault fun s => lineCheck2D_ne_fault
  · simp

theorem horizontalMode_ne_fault {w : Nat} {s : State} {x : Fault} : horizontalMode w s ≠ .fault x := by
  unfold horizontalMode
  split
  · exact andThen_ne_fault consume_ne_fault (by simp)
  · simp

theorem verticalMode_ne_fault {k : Int} {w : Nat} {s : State} {x : Fault} :
    verticalMode k w s ≠ .fault x := by
  unfold verticalMode
  split
  · dsimp only
    split
    · simp
    · refine andThen_ne_fault consume_ne_fault fun s => andThen_ne_fault checkAcc_ne_fault fun s => ?_
      split
      · simp
      · exact andThen_ne_fault emitTo_ne_fault fun s => lineCheck2D_ne_fault
  · simp

theorem extensionMode_ne_fault {s : State} {x : Fault} : extensionMode s ≠ .fault x := by
  unfold extensionMode; split <;> simp

theorem modeEol_ne_fault {w : Nat} {s : State} {x : Fault} : modeEol w s ≠ .fault x := by
  unfold modeEol
  split
  · exact andThen_ne_fault consume_ne_fault (by simp)
  · simp

/-- R208: the line check goes on, emits the pending run and ends, or ends. -/
theorem lineCheck2D_eq_next {s t : State} :
    lineCheck2D s = .next t ↔
      (s.a0 ≠ (s.width : Int) ∧ t = s) ∨
      (s.a0 = (s.width : Int) ∧ s.rs < s.width ∧ RoomForRun s ∧
        t = State.finish .line { s.appendRun (s.width - s.rs) with rs := s.width }) ∨
      (s.a0 = (s.width : Int) ∧ s.width ≤ s.rs ∧ t = s.finish .line) := by
  unfold lineCheck2D
  split
  · split
    · rename_i h1 h2
      simp only [andThen_eq_next, emit_eq_next]
      constructor
      · rintro ⟨u, ⟨hr, rfl⟩, h⟩
        exact .inr (.inl ⟨h1, h2, hr, by simpa [eq_comm] using h⟩)
      · rintro (⟨h, -⟩ | ⟨-, -, hr, rfl⟩ | ⟨-, h, -⟩)
        · exact absurd h1 h
        · exact ⟨_, ⟨hr, rfl⟩, rfl⟩
        · omega
    · rename_i h1 h2
      constructor
      · intro h
        exact .inr (.inr ⟨h1, by omega, by simpa [eq_comm] using h⟩)
      · rintro (⟨h, -⟩ | ⟨-, h, -⟩ | ⟨-, -, rfl⟩)
        · exact absurd h1 h
        · exact absurd h h2
        · rfl
  · rename_i h1
    constructor
    · intro h
      exact .inl ⟨h1, by simpa [eq_comm] using h⟩
    · rintro (⟨-, rfl⟩ | ⟨h, -⟩ | ⟨h, -⟩)
      · rfl
      · exact absurd h h1
      · exact absurd h h1

/-- R205: the three ends of a run in RUN1D. -/
theorem runComplete1D_eq_next {L : Nat} {s t : State} :
    runComplete1D L s = .next t ↔ FitsAcc (s.rs + L) s ∧
      ((s.width < s.rs + L ∧ t = s.raise (.runOverflow (s.rs + L) s.width)) ∨
        (s.rs + L ≤ s.width ∧ RoomForRun s ∧
          t = (let u : State := { s.appendRun L with rs := s.rs + L, color := s.color.flip }
               if s.rs + L = s.width then u.finish .line else u))) := by
  unfold runComplete1D
  simp only [andThen_eq_next, checkAcc_eq_next]
  constructor
  · rintro ⟨u, ⟨hf, rfl⟩, h⟩
    refine ⟨hf, ?_⟩
    split at h
    · rename_i hw
      exact .inl ⟨hw, by simpa [eq_comm] using h⟩
    · rename_i hw
      simp only [andThen_eq_next, emit_eq_next] at h
      obtain ⟨v, ⟨hr, rfl⟩, h⟩ := h
      exact .inr ⟨by omega, hr, by simpa [eq_comm] using h⟩
  · rintro ⟨hf, ⟨hw, rfl⟩ | ⟨hw, hr, rfl⟩⟩
    · exact ⟨_, ⟨hf, rfl⟩, by simp [hw]⟩
    · refine ⟨_, ⟨hf, rfl⟩, ?_⟩
      rw [if_neg (by omega), emit_of_room hr]
      rfl

/-- R206: the two ends of a Horizontal's first run. -/
theorem runCompleteH1_eq_next {L : Nat} {s t : State} :
    runCompleteH1 L s = .next t ↔ FitsAcc (pos0 s + L) s ∧
      ((s.width < pos0 s + L ∧ t = s.raise (.runOverflow (pos0 s + L) s.width)) ∨
        (pos0 s + L ≤ s.width ∧ s.rs ≤ pos0 s + L ∧ RoomForRun s ∧
          t = { s.appendRun (pos0 s + L - s.rs) with rs := pos0 s + L, phase := .hrun2 })) := by
  unfold runCompleteH1
  simp only [andThen_eq_next, checkAcc_eq_next]
  constructor
  · rintro ⟨u, ⟨hf, rfl⟩, h⟩
    refine ⟨hf, ?_⟩
    split at h
    · rename_i hw
      exact .inl ⟨hw, by simpa [eq_comm] using h⟩
    · rename_i hw
      simp only [andThen_eq_next, emitTo_eq_next] at h
      obtain ⟨v, ⟨hle, hr, rfl⟩, h⟩ := h
      exact .inr ⟨by omega, hle, hr, by simpa [eq_comm] using h⟩
  · rintro ⟨hf, ⟨hw, rfl⟩ | ⟨hw, hle, hr, rfl⟩⟩
    · exact ⟨_, ⟨hf, rfl⟩, by simp [hw]⟩
    · refine ⟨_, ⟨hf, rfl⟩, ?_⟩
      rw [if_neg (by omega)]
      simp only [andThen_eq_next, emitTo_eq_next]
      exact ⟨_, ⟨hle, hr, rfl⟩, rfl⟩

/-- R207: the ends of a Horizontal's second run, up to the line check. -/
theorem runCompleteH2_eq_next {L : Nat} {s t : State} :
    runCompleteH2 L s = .next t ↔ FitsAcc (s.rs + L) s ∧
      ((s.width < s.rs + L ∧ t = s.raise (.runOverflow (s.rs + L) s.width)) ∨
        (s.rs + L ≤ s.width ∧ RoomForRun s ∧
          lineCheck2D { s.appendRun L with rs := s.rs + L, a0 := ((s.rs + L : Nat) : Int),
                                           phase := .mode2D } = .next t)) := by
  unfold runCompleteH2
  simp only [andThen_eq_next, checkAcc_eq_next]
  constructor
  · rintro ⟨u, ⟨hf, rfl⟩, h⟩
    refine ⟨hf, ?_⟩
    split at h
    · rename_i hw
      exact .inl ⟨hw, by simpa [eq_comm] using h⟩
    · rename_i hw
      simp only [andThen_eq_next, emit_eq_next] at h
      obtain ⟨v, ⟨hr, rfl⟩, h⟩ := h
      exact .inr ⟨by omega, hr, h⟩
  · rintro ⟨hf, ⟨hw, rfl⟩ | ⟨hw, hr, h⟩⟩
    · exact ⟨_, ⟨hf, rfl⟩, by simp [hw]⟩
    · refine ⟨_, ⟨hf, rfl⟩, ?_⟩
      rw [if_neg (by omega), emit_of_room hr]
      exact h

/-- R205 to R207: which completion runs. -/
theorem runComplete_eq_next {L : Nat} {s t : State} :
    runComplete L s = .next t ↔
      (s.phase = .run1D ∧ runComplete1D L s = .next t) ∨
      (s.phase = .hrun1 ∧ runCompleteH1 L s = .next t) ∨
      (s.phase = .hrun2 ∧ runCompleteH2 L s = .next t) := by
  unfold runComplete
  cases s.phase <;> simp

/-- R141, R145: a terminating code consumes, then completes the run with RACC cleared. -/
theorem runTerm_eq_next {c : Color} {n w : Nat} {s t : State} :
    runTerm c n w s = .next t ↔ runColor s = some c ∧ FitsCur w s ∧ FitsAcc (s.racc + n) s ∧
      runComplete (s.racc + n) { s.advance w with racc := 0 } = .next t := by
  unfold runTerm
  split
  · rename_i hc
    simp only [andThen_eq_next, consume_eq_next, checkAcc_eq_next]
    constructor
    · rintro ⟨u, ⟨hw, rfl⟩, v, ⟨hf, rfl⟩, h⟩
      exact ⟨hc, hw, hf, h⟩
    · rintro ⟨-, hw, hf, h⟩
      exact ⟨_, ⟨hw, rfl⟩, _, ⟨hf, rfl⟩, h⟩
  · rename_i hc
    simp [hc]

/-- R142, R143, R146, R147: a makeup code moves the cursor and adds to RACC, nothing else. -/
theorem runMakeup_eq_next {c : Color} {v w : Nat} {s t : State} :
    runMakeup c v w s = .next t ↔ runColor s = some c ∧ FitsCur w s ∧ FitsAcc (s.racc + v) s ∧
      t = { s.advance w with racc := s.racc + v } := by
  unfold runMakeup
  split
  · rename_i hc
    simp only [andThen_eq_next, consume_eq_next, checkAcc_eq_next]
    constructor
    · rintro ⟨u, ⟨hw, rfl⟩, x, ⟨hf, rfl⟩, h⟩
      exact ⟨hc, hw, hf, by simpa [eq_comm] using h⟩
    · rintro ⟨-, hw, hf, rfl⟩
      exact ⟨_, ⟨hw, rfl⟩, _, ⟨hf, rfl⟩, rfl⟩
  · rename_i hc
    simp [hc]

/-- R144, R148. -/
theorem runEol_eq_next {c : Color} {w : Nat} {s t : State} :
    runEol c w s = .next t ↔ runColor s = some c ∧ FitsCur w s ∧
      t = State.finish .eos { s.advance w with racc := 0 } := by
  unfold runEol
  split
  · rename_i hc
    simp only [andThen_eq_next, consume_eq_next]
    constructor
    · rintro ⟨u, ⟨hw, rfl⟩, h⟩
      exact ⟨hc, hw, by simpa [eq_comm] using h⟩
    · rintro ⟨-, hw, rfl⟩
      exact ⟨_, ⟨hw, rfl⟩, rfl⟩
  · rename_i hc
    simp [hc]

/-- R175. -/
theorem passMode_eq_next {w : Nat} {s t : State} :
    passMode w s = .next t ↔ s.phase = .mode2D ∧ FitsCur w s ∧ FitsAcc (b2 s) s ∧
      lineCheck2D { s.advance w with a0 := (b2 s : Int) } = .next t := by
  unfold passMode
  split
  · rename_i hc
    simp only [andThen_eq_next, consume_eq_next, checkAcc_eq_next]
    constructor
    · rintro ⟨u, ⟨hw, rfl⟩, x, ⟨hf, rfl⟩, h⟩
      exact ⟨hc, hw, hf, h⟩
    · rintro ⟨-, hw, hf, h⟩
      exact ⟨_, ⟨hw, rfl⟩, _, ⟨hf, rfl⟩, h⟩
  · rename_i hc
    simp [hc]

/-- R176. -/
theorem horizontalMode_eq_next {w : Nat} {s t : State} :
    horizontalMode w s = .next t ↔ s.phase = .mode2D ∧ FitsCur w s ∧
      t = { s.advance w with racc := 0, phase := .hrun1 } := by
  unfold horizontalMode
  split
  · rename_i hc
    simp only [andThen_eq_next, consume_eq_next]
    constructor
    · rintro ⟨u, ⟨hw, rfl⟩, h⟩
      exact ⟨hc, hw, by simpa [eq_comm] using h⟩
    · rintro ⟨-, hw, rfl⟩
      exact ⟨_, ⟨hw, rfl⟩, rfl⟩
  · rename_i hc
    simp [hc]

/-- R187: the three ends of a vertical code. -/
theorem verticalMode_eq_next {k : Int} {w : Nat} {s t : State} :
    verticalMode k w s = .next t ↔ s.phase = .mode2D ∧
      (((b1 s : Int) + k < max s.a0 0 ∧ t = s.raise (.invalidModeCode s.cur)) ∨
        (max s.a0 0 ≤ (b1 s : Int) + k ∧ FitsCur w s ∧ FitsAcc ((b1 s : Int) + k).toNat s ∧
          (((s.width : Int) < (b1 s : Int) + k ∧
              t = (s.advance w).raise (.runOverflow ((b1 s : Int) + k).toNat s.width)) ∨
            ((b1 s : Int) + k ≤ (s.width : Int) ∧ s.rs ≤ ((b1 s : Int) + k).toNat ∧ RoomForRun s ∧
              lineCheck2D { (s.advance w).appendRun (((b1 s : Int) + k).toNat - s.rs) with
                rs := ((b1 s : Int) + k).toNat, a0 := (b1 s : Int) + k,
                color := s.color.flip } = .next t)))) := by
  unfold verticalMode
  split
  · rename_i hc
    simp only [hc, true_and]
    split
    · rename_i hl
      constructor
      · intro h
        exact .inl ⟨hl, by simpa [eq_comm] using h⟩
      · rintro (⟨-, rfl⟩ | ⟨h, -⟩)
        · rfl
        · omega
    · rename_i hl
      simp only [andThen_eq_next, consume_eq_next, checkAcc_eq_next]
      constructor
      · rintro ⟨u, ⟨hw, rfl⟩, x, ⟨hf, rfl⟩, h⟩
        refine .inr ⟨by omega, hw, hf, ?_⟩
        split at h
        · rename_i hov
          exact .inl ⟨hov, by simpa [eq_comm] using h⟩
        · rename_i hov
          simp only [andThen_eq_next, emitTo_eq_next] at h
          obtain ⟨y, ⟨hle, hr, rfl⟩, h⟩ := h
          exact .inr ⟨by simpa using hov, hle, hr, h⟩
      · rintro (⟨h, -⟩ | ⟨-, hw, hf, h⟩)
        · exact absurd h hl
        · refine ⟨_, ⟨hw, rfl⟩, _, ⟨hf, rfl⟩, ?_⟩
          rcases h with ⟨hov, rfl⟩ | ⟨hov, hle, hr, h⟩
          · simp [hov]
          · rw [if_neg (by simpa using hov)]
            simp only [andThen_eq_next, emitTo_eq_next]
            exact ⟨_, ⟨hle, hr, rfl⟩, h⟩
  · rename_i hc
    simp [hc]

/-- R184. -/
theorem extensionMode_eq_next {s t : State} :
    extensionMode s = .next t ↔ s.phase = .mode2D ∧ t = s.raise (.invalidModeCode s.cur) := by
  unfold extensionMode
  split
  · rename_i h
    simp [h, eq_comm]
  · simp [*]

/-- R185. -/
theorem modeEol_eq_next {w : Nat} {s t : State} :
    modeEol w s = .next t ↔ s.phase = .mode2D ∧ FitsCur w s ∧ t = (s.advance w).finish .eos := by
  unfold modeEol
  split
  · rename_i hc
    simp only [andThen_eq_next, consume_eq_next]
    constructor
    · rintro ⟨u, ⟨hw, rfl⟩, h⟩
      exact ⟨hc, hw, by simpa [eq_comm] using h⟩
    · rintro ⟨-, hw, rfl⟩
      exact ⟨_, ⟨hw, rfl⟩, rfl⟩
  · rename_i hc
    simp [hc]

end Sys2Proof.Machine
end

