-- ==== Sys2Proof/Laws/Dispatch.lean ====
section
/-! SUPPORT. The 221 meanings seen as the ten operations of their classes: `exec` is the operation `opOf` gives,
so that a proof about every code word has ten cases. -/

namespace Sys2Proof.Machine

/-- An operation of a class, with its operands. -/
inductive Op where
  | term (c : Color) (n w : Nat)
  | makeup (c : Color) (v w : Nat)
  | runEol (c : Color)
  | pass
  | horizontal
  | vertical (k : Int) (w : Nat)
  | extension
  | modeEol
  deriving DecidableEq, Repr

/-- What an operation does. -/
def Op.run : Op → State → Result
  | .term c n w => runTerm c n w
  | .makeup c v w => runMakeup c v w
  | .runEol c => Machine.runEol c 12
  | .pass => passMode 4
  | .horizontal => horizontalMode 3
  | .vertical k w => verticalMode k w
  | .extension => extensionMode
  | .modeEol => Machine.modeEol 12

/-- The bits an operation's code word has. -/
def Op.width : Op → Nat
  | .term _ _ w => w
  | .makeup _ _ w => w
  | .runEol _ => 12
  | .pass => 4
  | .horizontal => 3
  | .vertical _ w => w
  | .extension => 7
  | .modeEol => 12

/-- The table an operation's code word is read from. -/
def Op.table : Op → Table
  | .term c _ _ => Table.ofColor c
  | .makeup c _ _ => Table.ofColor c
  | .runEol c => Table.ofColor c
  | .pass => .mode
  | .horizontal => .mode
  | .vertical _ _ => .mode
  | .extension => .mode
  | .modeEol => .mode

/-- The class of an operation. -/
def Op.format : Op → Format
  | .term _ _ _ => .runTerm
  | .makeup _ v _ => if v ≤ 1728 then .runMakeup else .runXMakeup
  | .runEol _ => .eol
  | .pass => .mode
  | .horizontal => .mode
  | .vertical _ _ => .mode
  | .extension => .mode
  | .modeEol => .eol

/-- The operation of a code word. -/
def opOf : Instr → Op
  | .wt0 => .term .white 0 8
  | .wt1 => .term .white 1 6
  | .wt2 => .term .white 2 4
  | .wt3 => .term .white 3 4
  | .wt4 => .term .white 4 4
  | .wt5 => .term .white 5 4
  | .wt6 => .term .white 6 4
  | .wt7 => .term .white 7 4
  | .wt8 => .term .white 8 5
  | .wt9 => .term .white 9 5
  | .wt10 => .term .white 10 5
  | .wt11 => .term .white 11 5
  | .wt12 => .term .white 12 6
  | .wt13 => .term .white 13 6
  | .wt14 => .term .white 14 6
  | .wt15 => .term .white 15 6
  | .wt16 => .term .white 16 6
  | .wt17 => .term .white 17 6
  | .wt18 => .term .white 18 7
  | .wt19 => .term .white 19 7
  | .wt20 => .term .white 20 7
  | .wt21 => .term .white 21 7
  | .wt22 => .term .white 22 7
  | .wt23 => .term .white 23 7
  | .wt24 => .term .white 24 7
  | .wt25 => .term .white 25 7
  | .wt26 => .term .white 26 7
  | .wt27 => .term .white 27 7
  | .wt28 => .term .white 28 7
  | .wt29 => .term .white 29 8
  | .wt30 => .term .white 30 8
  | .wt31 => .term .white 31 8
  | .wt32 => .term .white 32 8
  | .wt33 => .term .white 33 8
  | .wt34 => .term .white 34 8
  | .wt35 => .term .white 35 8
  | .wt36 => .term .white 36 8
  | .wt37 => .term .white 37 8
  | .wt38 => .term .white 38 8
  | .wt39 => .term .white 39 8
  | .wt40 => .term .white 40 8
  | .wt41 => .term .white 41 8
  | .wt42 => .term .white 42 8
  | .wt43 => .term .white 43 8
  | .wt44 => .term .white 44 8
  | .wt45 => .term .white 45 8
  | .wt46 => .term .white 46 8
  | .wt47 => .term .white 47 8
  | .wt48 => .term .white 48 8
  | .wt49 => .term .white 49 8
  | .wt50 => .term .white 50 8
  | .wt51 => .term .white 51 8
  | .wt52 => .term .white 52 8
  | .wt53 => .term .white 53 8
  | .wt54 => .term .white 54 8
  | .wt55 => .term .white 55 8
  | .wt56 => .term .white 56 8
  | .wt57 => .term .white 57 8
  | .wt58 => .term .white 58 8
  | .wt59 => .term .white 59 8
  | .wt60 => .term .white 60 8
  | .wt61 => .term .white 61 8
  | .wt62 => .term .white 62 8
  | .wt63 => .term .white 63 8
  | .wm64 => .makeup .white 64 5
  | .wm128 => .makeup .white 128 5
  | .wm192 => .makeup .white 192 6
  | .wm256 => .makeup .white 256 7
  | .wm320 => .makeup .white 320 8
  | .wm384 => .makeup .white 384 8
  | .wm448 => .makeup .white 448 8
  | .wm512 => .makeup .white 512 8
  | .wm576 => .makeup .white 576 8
  | .wm640 => .makeup .white 640 8
  | .wm704 => .makeup .white 704 9
  | .wm768 => .makeup .white 768 9
  | .wm832 => .makeup .white 832 9
  | .wm896 => .makeup .white 896 9
  | .wm960 => .makeup .white 960 9
  | .wm1024 => .makeup .white 1024 9
  | .wm1088 => .makeup .white 1088 9
  | .wm1152 => .makeup .white 1152 9
  | .wm1216 => .makeup .white 1216 9
  | .wm1280 => .makeup .white 1280 9
  | .wm1344 => .makeup .white 1344 9
  | .wm1408 => .makeup .white 1408 9
  | .wm1472 => .makeup .white 1472 9
  | .wm1536 => .makeup .white 1536 9
  | .wm1600 => .makeup .white 1600 9
  | .wm1664 => .makeup .white 1664 6
  | .wm1728 => .makeup .white 1728 9
  | .wx1792 => .makeup .white 1792 11
  | .wx1856 => .makeup .white 1856 11
  | .wx1920 => .makeup .white 1920 11
  | .wx1984 => .makeup .white 1984 12
  | .wx2048 => .makeup .white 2048 12
  | .wx2112 => .makeup .white 2112 12
  | .wx2176 => .makeup .white 2176 12
  | .wx2240 => .makeup .white 2240 12
  | .wx2304 => .makeup .white 2304 12
  | .wx2368 => .makeup .white 2368 12
  | .wx2432 => .makeup .white 2432 12
  | .wx2496 => .makeup .white 2496 12
  | .wx2560 => .makeup .white 2560 12
  | .weol => .runEol .white
  | .bt0 => .term .black 0 10
  | .bt1 => .term .black 1 3
  | .bt2 => .term .black 2 2
  | .bt3 => .term .black 3 2
  | .bt4 => .term .black 4 3
  | .bt5 => .term .black 5 4
  | .bt6 => .term .black 6 4
  | .bt7 => .term .black 7 5
  | .bt8 => .term .black 8 6
  | .bt9 => .term .black 9 6
  | .bt10 => .term .black 10 7
  | .bt11 => .term .black 11 7
  | .bt12 => .term .black 12 7
  | .bt13 => .term .black 13 8
  | .bt14 => .term .black 14 8
  | .bt15 => .term .black 15 9
  | .bt16 => .term .black 16 10
  | .bt17 => .term .black 17 10
  | .bt18 => .term .black 18 10
  | .bt19 => .term .black 19 11
  | .bt20 => .term .black 20 11
  | .bt21 => .term .black 21 11
  | .bt22 => .term .black 22 11
  | .bt23 => .term .black 23 11
  | .bt24 => .term .black 24 11
  | .bt25 => .term .black 25 11
  | .bt26 => .term .black 26 12
  | .bt27 => .term .black 27 12
  | .bt28 => .term .black 28 12
  | .bt29 => .term .black 29 12
  | .bt30 => .term .black 30 12
  | .bt31 => .term .black 31 12
  | .bt32 => .term .black 32 12
  | .bt33 => .term .black 33 12
  | .bt34 => .term .black 34 12
  | .bt35 => .term .black 35 12
  | .bt36 => .term .black 36 12
  | .bt37 => .term .black 37 12
  | .bt38 => .term .black 38 12
  | .bt39 => .term .black 39 12
  | .bt40 => .term .black 40 12
  | .bt41 => .term .black 41 12
  | .bt42 => .term .black 42 12
  | .bt43 => .term .black 43 12
  | .bt44 => .term .black 44 12
  | .bt45 => .term .black 45 12
  | .bt46 => .term .black 46 12
  | .bt47 => .term .black 47 12
  | .bt48 => .term .black 48 12
  | .bt49 => .term .black 49 12
  | .bt50 => .term .black 50 12
  | .bt51 => .term .black 51 12
  | .bt52 => .term .black 52 12
  | .bt53 => .term .black 53 12
  | .bt54 => .term .black 54 12
  | .bt55 => .term .black 55 12
  | .bt56 => .term .black 56 12
  | .bt57 => .term .black 57 12
  | .bt58 => .term .black 58 12
  | .bt59 => .term .black 59 12
  | .bt60 => .term .black 60 12
  | .bt61 => .term .black 61 12
  | .bt62 => .term .black 62 12
  | .bt63 => .term .black 63 12
  | .bm64 => .makeup .black 64 10
  | .bm128 => .makeup .black 128 12
  | .bm192 => .makeup .black 192 12
  | .bm256 => .makeup .black 256 12
  | .bm320 => .makeup .black 320 12
  | .bm384 => .makeup .black 384 12
  | .bm448 => .makeup .black 448 12
  | .bm512 => .makeup .black 512 13
  | .bm576 => .makeup .black 576 13
  | .bm640 => .makeup .black 640 13
  | .bm704 => .makeup .black 704 13
  | .bm768 => .makeup .black 768 13
  | .bm832 => .makeup .black 832 13
  | .bm896 => .makeup .black 896 13
  | .bm960 => .makeup .black 960 13
  | .bm1024 => .makeup .black 1024 13
  | .bm1088 => .makeup .black 1088 13
  | .bm1152 => .makeup .black 1152 13
  | .bm1216 => .makeup .black 1216 13
  | .bm1280 => .makeup .black 1280 13
  | .bm1344 => .makeup .black 1344 13
  | .bm1408 => .makeup .black 1408 13
  | .bm1472 => .makeup .black 1472 13
  | .bm1536 => .makeup .black 1536 13
  | .bm1600 => .makeup .black 1600 13
  | .bm1664 => .makeup .black 1664 13
  | .bm1728 => .makeup .black 1728 13
  | .bx1792 => .makeup .black 1792 11
  | .bx1856 => .makeup .black 1856 11
  | .bx1920 => .makeup .black 1920 11
  | .bx1984 => .makeup .black 1984 12
  | .bx2048 => .makeup .black 2048 12
  | .bx2112 => .makeup .black 2112 12
  | .bx2176 => .makeup .black 2176 12
  | .bx2240 => .makeup .black 2240 12
  | .bx2304 => .makeup .black 2304 12
  | .bx2368 => .makeup .black 2368 12
  | .bx2432 => .makeup .black 2432 12
  | .bx2496 => .makeup .black 2496 12
  | .bx2560 => .makeup .black 2560 12
  | .beol => .runEol .black
  | .p => .pass
  | .h => .horizontal
  | .v0 => .vertical 0 1
  | .vr1 => .vertical 1 3
  | .vr2 => .vertical 2 6
  | .vr3 => .vertical 3 7
  | .vl1 => .vertical (-1) 3
  | .vl2 => .vertical (-2) 6
  | .vl3 => .vertical (-3) 7
  | .ext => .extension
  | .eol => .modeEol

/-- Every meaning is the operation of its class. -/
theorem exec_eq_op (i : Instr) (s : State) : exec i s = (opOf i).run s := by cases i <;> rfl

theorem opOf_width (i : Instr) : (opOf i).width = (encode i).length := by cases i <;> rfl

theorem opOf_table (i : Instr) : (opOf i).table = i.table := by cases i <;> rfl

theorem opOf_format (i : Instr) : (opOf i).format = i.format := by cases i <;> rfl

/-- No meaning faults: the model's only fault is the host port's. -/
theorem exec_ne_fault (i : Instr) (s : State) (x : Fault) : exec i s ≠ .fault x := by
  rw [exec_eq_op]
  cases opOf i with
  | term c n w => exact runTerm_ne_fault
  | makeup c v w => exact runMakeup_ne_fault
  | runEol c => exact runEol_ne_fault
  | pass => exact passMode_ne_fault
  | horizontal => exact horizontalMode_ne_fault
  | vertical k w => exact verticalMode_ne_fault
  | extension => exact extensionMode_ne_fault
  | modeEol => exact modeEol_ne_fault

end Sys2Proof.Machine
end

