-- ==== Sys2Proof/Laws/HostPort.lean ====
section
/-! SUPPORT. For each operation of the host port, one lemma that says once when it answers a next state and
which, and when the port faults: the provers cite these and unfold no operation. -/

namespace Sys2Proof.Machine

/-- R37, R278 (d): a read of an existing cell, and of a result only after DONE was seen. -/
theorem hostRead_eq_next {r : HostReg} {s t : State} :
    hostRead r s = .next t ↔ noSuchReg r s = false ∧
      (r.isResult = true → s.phase = .done ∧ s.doneSeen = true) ∧ t = s.answerRead r := by
  unfold hostRead
  split
  · simp [*]
  · split
    · rename_i h1 h2
      simp only [reduceCtorEq, false_iff]
      rintro ⟨-, h, -⟩
      exact h2.2 (h h2.1)
    · rename_i h1 h2
      have h3 : r.isResult = true → s.phase = .done ∧ s.doneSeen = true := fun hr =>
        Decidable.byContradiction fun hn => h2 ⟨hr, hn⟩
      exact ⟨fun h => ⟨by simpa using h1, h3, (Host.Outcome.next.inj h).symm⟩, fun h => by rw [h.2.2]⟩

/-- The only fault of a read is the missing cell. -/
theorem hostRead_eq_fault {r : HostReg} {s : State} {x : Fault} :
    hostRead r s = .fault x ↔ noSuchReg r s = true := by
  cases x
  unfold hostRead
  split
  · simp [*]
  · split <;> simp [*]

theorem writeFitting_eq_next {ok : Bool} {s' t : State} :
    writeFitting ok s' = .next t ↔ ok = true ∧ t = s' := by
  unfold writeFitting
  split <;> simp [*, eq_comm]

/-- R37: a write is answered outside BUSY only, for an input register, with a value that fits, and changes that
register alone. -/
theorem hostWrite_eq_next {r : HostReg} {v : Nat} {s t : State} :
    hostWrite r v s = .next t ↔ s.busy = false ∧
      ((r = .inCur ∧ v < 2 ^ s.params.curBits ∧
          t = { s with inCur := v, inWritten := { s.inWritten with cur := true } }) ∨
        (r = .inWidth ∧ t = { s with inWidth := v, inWritten := { s.inWritten with width := true } }) ∨
        (r = .inMode ∧ v < 4 ∧
          t = { s with inMode := BitVec.ofNat 2 v, inWritten := { s.inWritten with mode := true } }) ∨
        (r = .inRefCount ∧ v ≤ s.params.maxRuns ∧
          t = { s with inRefCount := v, inWritten := { s.inWritten with refCount := true } }) ∨
        ∃ i, r = .inRef i ∧ i < s.params.maxRuns ∧
          t = { s with mem := { s.mem with inRef := writeCell i v s.mem.inRef } }) := by
  unfold hostWrite
  split
  · simp [*]
  · rename_i hb
    simp only [Bool.not_eq_true] at hb
    cases r with
    | inRef i =>
      by_cases hi : i < s.params.maxRuns
      · simp [hb, hi, eq_comm]
      · simp [hb, hi]
    | inWidth => simp [hb, eq_comm]
    | inCur => simp [hb, writeFitting_eq_next]
    | inMode => simp [hb, writeFitting_eq_next]
    | inRefCount => simp [hb, writeFitting_eq_next]
    | status => simp
    | outCur => simp
    | outCount => simp
    | outRuns i => simp
    | errOffset => simp
    | errAcc => simp
    | errExp => simp

/-- R278 (b): a stream is loaded outside BUSY only, and nothing else changes. -/
theorem loadStream_eq_next {bytes : List Byte} {n : Nat} {s t : State} :
    loadStream bytes n s = .next t ↔ s.busy = false ∧
      t = { s with mem := { s.mem with stream := (streamOfBytes s.params.fillOrder bytes).take n } } := by
  unfold loadStream
  split <;> simp [*, eq_comm]

/-- R215. -/
theorem strobeAck_eq_next {s t : State} :
    strobeAck s = .next t ↔ s.phase = .done ∧ t = s.ackDone := by
  unfold strobeAck
  split <;> simp [*, @eq_comm _ t]

/-- R9, R33, R152, R273: START's conditions on the scalar inputs. -/
theorem startRefusal_eq_none {s : State} :
    startRefusal s = none ↔ (s.phase = .idle ∨ s.phase = .done) ∧
      (s.inWritten.cur = true ∧ s.inWritten.width = true ∧ s.inWritten.mode = true) ∧
      (1 ≤ s.inWidth ∧ s.inWidth ≤ s.params.maxWidth ∧ s.inWidth < 2 ^ s.params.accBits) ∧
      s.inCur ≤ s.mem.stream.length ∧
      s.mem.stream.length < 2 ^ s.params.curBits ∧ s.inRefCount ≤ s.params.maxRuns := by
  unfold startRefusal
  by_cases h1 : s.phase = .idle ∨ s.phase = .done
  case neg => simp only [h1, not_false_eq_true, if_true, reduceCtorEq, false_and]
  by_cases h2 : s.inWritten.cur = true ∧ s.inWritten.width = true ∧ s.inWritten.mode = true
  case neg =>
    simp only [h1, h2, not_true_eq_false, not_false_eq_true, if_true, if_false, reduceCtorEq, false_and,
      true_and]
  simp only [h1, h2, not_true_eq_false, if_false, true_and, and_self]
  split
  · simp only [reduceCtorEq, false_iff]; omega
  · split
    · simp only [reduceCtorEq, false_iff]; omega
    · split
      · simp only [reduceCtorEq, false_iff]; omega
      · split
        · simp only [reduceCtorEq, false_iff]; omega
        · simp only [true_iff]; omega

/-- R9, R31, R273: START in a 2D mode. -/
theorem start2D_eq_next {m : CodingMode} {s t : State} :
    start2D m s = .next t ↔ s.inWritten.refCount = true ∧
      ∃ ref, readCells s.inRefCount 0 s.mem.inRef = some ref ∧ refWellFormed ref s.inWidth = true ∧
        t = s.startCommand m ref := by
  unfold start2D
  split
  · split
    · split <;> simp [*, @eq_comm _ t]
    · simp [*]
  · simp [*]

/-- R200: what a START that is answered does. -/
theorem strobeStart_eq_next {s t : State} :
    strobeStart s = .next t ↔ startRefusal s = none ∧
      ((s.inMode = 0#2 ∧ t = s.startCommand .group3_1D (latchedRef1D s)) ∨
        (s.inMode = 1#2 ∧ start2D .group3_2D s = .next t) ∨
        (s.inMode = 2#2 ∧ start2D .group4 s = .next t)) := by
  unfold strobeStart
  split
  · simp [*]
  · rename_i h
    have hm : s.inMode = 0#2 ∨ s.inMode = 1#2 ∨ s.inMode = 2#2 ∨ s.inMode = 3#2 := by
      generalize s.inMode = b
      revert b
      decide
    rcases hm with hm | hm | hm | hm <;> simp [h, hm, modeOfBits, @eq_comm _ t]

end Sys2Proof.Machine
end

