-- ==== Sys2Proof/Laws/Memory.lean ====
section
/-! SUPPORT. The run-buffer cells keep their canonical form, and every memory operation keeps `Memory.wf`. -/

namespace Sys2Proof.Machine

/-- The first index of a canonical list is below the later ones: the step of `cellsRising`. -/
theorem cellsRising_cons (a b : Nat × Nat) (rest : Cells) :
    cellsRising (a :: b :: rest) = true ↔ a.1 < b.1 ∧ cellsRising (b :: rest) = true := by
  simp [cellsRising]

theorem cellsRising_tail {a : Nat × Nat} {rest : Cells} (h : cellsRising (a :: rest) = true) :
    cellsRising rest = true := by
  cases rest with
  | nil => rfl
  | cons b rest => exact ((cellsRising_cons a b rest).1 h).2

/-- Writing a cell keeps the canonical form. -/
theorem writeCell_rising (i v : Nat) :
    ∀ {cells : Cells}, cellsRising cells = true → cellsRising (writeCell i v cells) = true
  | [], _ => rfl
  | [c], _ => by
    unfold writeCell
    split
    · simp [cellsRising, *]
    · split
      · rfl
      · simp only [writeCell, cellsRising_cons]
        exact ⟨by omega, rfl⟩
  | c :: d :: rest, h => by
    have hcd := (cellsRising_cons c d rest).1 h
    have ih := writeCell_rising i v hcd.2
    unfold writeCell
    split
    · rw [cellsRising_cons]
      exact ⟨by assumption, h⟩
    · split
      · rename_i hi
        subst hi
        exact (cellsRising_cons _ _ _).2 ⟨hcd.1, hcd.2⟩
      · unfold writeCell at ih ⊢
        split
        · rename_i hid
          rw [if_pos hid] at ih
          exact (cellsRising_cons _ _ _).2 ⟨by simp; omega, ih⟩
        · rename_i hid
          rw [if_neg hid] at ih
          split
          · rename_i hid'
            rw [if_pos hid'] at ih
            exact (cellsRising_cons _ _ _).2 ⟨by simp; omega, ih⟩
          · rename_i hid'
            rw [if_neg hid'] at ih
            exact (cellsRising_cons _ _ _).2 ⟨hcd.1, ih⟩

/-- Every listed index after a write is the written one or was listed before. -/
theorem mem_writeCell {i v : Nat} {c : Nat × Nat} :
    ∀ {cells : Cells}, c ∈ writeCell i v cells → c = (i, v) ∨ c ∈ cells
  | [], h => by simpa [writeCell] using h
  | d :: rest, h => by
    unfold writeCell at h
    split at h
    · simpa using h
    · split at h
      · rcases List.mem_cons.1 h with h | h
        · exact .inl h
        · exact .inr (List.mem_cons_of_mem _ h)
      · rcases List.mem_cons.1 h with h | h
        · exact .inr (by simp [h])
        · rcases mem_writeCell h with h | h
          · exact .inl h
          · exact .inr (List.mem_cons_of_mem _ h)

/-- The reset memory is canonical. -/
theorem reset_mem_wf : State.reset.mem.wf := rfl

/-- `Finish` keeps the canonical form. -/
theorem storeOutRuns_wf {m : Memory} (r : List Nat) (h : m.wf) : (storeOutRuns r m).wf := h

/-- A host write of an IN_REF cell keeps the canonical form. -/
theorem writeInRef_wf {m : Memory} (i v : Nat) (h : m.wf) :
    Memory.wf { m with inRef := writeCell i v m.inRef } := writeCell_rising i v h

/-- Loading a stream keeps the canonical form. -/
theorem loadStream_wf {m : Memory} (b : Bits) (h : m.wf) : Memory.wf { m with stream := b } := h

/-- A reset leaves a canonical memory. -/
theorem resetNow_wf (s : State) : s.resetNow.mem.wf := rfl

end Sys2Proof.Machine
end

