-- ==== Sys2Proof/Laws/PerInstr.lean ====
section
/-! SUPPORT. The family `RowOf`: for each code word, the decoder's table has the row of it, and the row's bits and
width are the encoder's (spec/30_encoding.md R92 to R96, transcribed twice in Decode.lean). -/

namespace Sys2Proof.Laws.RowOf

open Sys2Proof

/-- The row of `i` stands in its own table, with the encoder's code word, and within the table's longest. -/
def Statement (i : Instr) : Prop :=
  ∃ row ∈ codeRows i.table, row.instr = i ∧ row.word = encode i ∧ row.width = (encode i).length ∧
    row.width ≤ i.table.maxLen

theorem wt0 : Statement .wt0 := by unfold Statement; decide
theorem wt1 : Statement .wt1 := by unfold Statement; decide
theorem wt2 : Statement .wt2 := by unfold Statement; decide
theorem wt3 : Statement .wt3 := by unfold Statement; decide
theorem wt4 : Statement .wt4 := by unfold Statement; decide
theorem wt5 : Statement .wt5 := by unfold Statement; decide
theorem wt6 : Statement .wt6 := by unfold Statement; decide
theorem wt7 : Statement .wt7 := by unfold Statement; decide
theorem wt8 : Statement .wt8 := by unfold Statement; decide
theorem wt9 : Statement .wt9 := by unfold Statement; decide
theorem wt10 : Statement .wt10 := by unfold Statement; decide
theorem wt11 : Statement .wt11 := by unfold Statement; decide
theorem wt12 : Statement .wt12 := by unfold Statement; decide
theorem wt13 : Statement .wt13 := by unfold Statement; decide
theorem wt14 : Statement .wt14 := by unfold Statement; decide
theorem wt15 : Statement .wt15 := by unfold Statement; decide
theorem wt16 : Statement .wt16 := by unfold Statement; decide
theorem wt17 : Statement .wt17 := by unfold Statement; decide
theorem wt18 : Statement .wt18 := by unfold Statement; decide
theorem wt19 : Statement .wt19 := by unfold Statement; decide
theorem wt20 : Statement .wt20 := by unfold Statement; decide
theorem wt21 : Statement .wt21 := by unfold Statement; decide
theorem wt22 : Statement .wt22 := by unfold Statement; decide
theorem wt23 : Statement .wt23 := by unfold Statement; decide
theorem wt24 : Statement .wt24 := by unfold Statement; decide
theorem wt25 : Statement .wt25 := by unfold Statement; decide
theorem wt26 : Statement .wt26 := by unfold Statement; decide
theorem wt27 : Statement .wt27 := by unfold Statement; decide
theorem wt28 : Statement .wt28 := by unfold Statement; decide
theorem wt29 : Statement .wt29 := by unfold Statement; decide
theorem wt30 : Statement .wt30 := by unfold Statement; decide
theorem wt31 : Statement .wt31 := by unfold Statement; decide
theorem wt32 : Statement .wt32 := by unfold Statement; decide
theorem wt33 : Statement .wt33 := by unfold Statement; decide
theorem wt34 : Statement .wt34 := by unfold Statement; decide
theorem wt35 : Statement .wt35 := by unfold Statement; decide
theorem wt36 : Statement .wt36 := by unfold Statement; decide
theorem wt37 : Statement .wt37 := by unfold Statement; decide
theorem wt38 : Statement .wt38 := by unfold Statement; decide
theorem wt39 : Statement .wt39 := by unfold Statement; decide
theorem wt40 : Statement .wt40 := by unfold Statement; decide
theorem wt41 : Statement .wt41 := by unfold Statement; decide
theorem wt42 : Statement .wt42 := by unfold Statement; decide
theorem wt43 : Statement .wt43 := by unfold Statement; decide
theorem wt44 : Statement .wt44 := by unfold Statement; decide
theorem wt45 : Statement .wt45 := by unfold Statement; decide
theorem wt46 : Statement .wt46 := by unfold Statement; decide
theorem wt47 : Statement .wt47 := by unfold Statement; decide
theorem wt48 : Statement .wt48 := by unfold Statement; decide
theorem wt49 : Statement .wt49 := by unfold Statement; decide
theorem wt50 : Statement .wt50 := by unfold Statement; decide
theorem wt51 : Statement .wt51 := by unfold Statement; decide
theorem wt52 : Statement .wt52 := by unfold Statement; decide
theorem wt53 : Statement .wt53 := by unfold Statement; decide
theorem wt54 : Statement .wt54 := by unfold Statement; decide
theorem wt55 : Statement .wt55 := by unfold Statement; decide
theorem wt56 : Statement .wt56 := by unfold Statement; decide
theorem wt57 : Statement .wt57 := by unfold Statement; decide
theorem wt58 : Statement .wt58 := by unfold Statement; decide
theorem wt59 : Statement .wt59 := by unfold Statement; decide
theorem wt60 : Statement .wt60 := by unfold Statement; decide
theorem wt61 : Statement .wt61 := by unfold Statement; decide
theorem wt62 : Statement .wt62 := by unfold Statement; decide
theorem wt63 : Statement .wt63 := by unfold Statement; decide
theorem wm64 : Statement .wm64 := by unfold Statement; decide
theorem wm128 : Statement .wm128 := by unfold Statement; decide
theorem wm192 : Statement .wm192 := by unfold Statement; decide
theorem wm256 : Statement .wm256 := by unfold Statement; decide
theorem wm320 : Statement .wm320 := by unfold Statement; decide
theorem wm384 : Statement .wm384 := by unfold Statement; decide
theorem wm448 : Statement .wm448 := by unfold Statement; decide
theorem wm512 : Statement .wm512 := by unfold Statement; decide
theorem wm576 : Statement .wm576 := by unfold Statement; decide
theorem wm640 : Statement .wm640 := by unfold Statement; decide
theorem wm704 : Statement .wm704 := by unfold Statement; decide
theorem wm768 : Statement .wm768 := by unfold Statement; decide
theorem wm832 : Statement .wm832 := by unfold Statement; decide
theorem wm896 : Statement .wm896 := by unfold Statement; decide
theorem wm960 : Statement .wm960 := by unfold Statement; decide
theorem wm1024 : Statement .wm1024 := by unfold Statement; decide
theorem wm1088 : Statement .wm1088 := by unfold Statement; decide
theorem wm1152 : Statement .wm1152 := by unfold Statement; decide
theorem wm1216 : Statement .wm1216 := by unfold Statement; decide
theorem wm1280 : Statement .wm1280 := by unfold Statement; decide
theorem wm1344 : Statement .wm1344 := by unfold Statement; decide
theorem wm1408 : Statement .wm1408 := by unfold Statement; decide
theorem wm1472 : Statement .wm1472 := by unfold Statement; decide
theorem wm1536 : Statement .wm1536 := by unfold Statement; decide
theorem wm1600 : Statement .wm1600 := by unfold Statement; decide
theorem wm1664 : Statement .wm1664 := by unfold Statement; decide
theorem wm1728 : Statement .wm1728 := by unfold Statement; decide
theorem wx1792 : Statement .wx1792 := by unfold Statement; decide
theorem wx1856 : Statement .wx1856 := by unfold Statement; decide
theorem wx1920 : Statement .wx1920 := by unfold Statement; decide
theorem wx1984 : Statement .wx1984 := by unfold Statement; decide
theorem wx2048 : Statement .wx2048 := by unfold Statement; decide
theorem wx2112 : Statement .wx2112 := by unfold Statement; decide
theorem wx2176 : Statement .wx2176 := by unfold Statement; decide
theorem wx2240 : Statement .wx2240 := by unfold Statement; decide
theorem wx2304 : Statement .wx2304 := by unfold Statement; decide
theorem wx2368 : Statement .wx2368 := by unfold Statement; decide
theorem wx2432 : Statement .wx2432 := by unfold Statement; decide
theorem wx2496 : Statement .wx2496 := by unfold Statement; decide
theorem wx2560 : Statement .wx2560 := by unfold Statement; decide
theorem weol : Statement .weol := by unfold Statement; decide
theorem bt0 : Statement .bt0 := by unfold Statement; decide
theorem bt1 : Statement .bt1 := by unfold Statement; decide
theorem bt2 : Statement .bt2 := by unfold Statement; decide
theorem bt3 : Statement .bt3 := by unfold Statement; decide
theorem bt4 : Statement .bt4 := by unfold Statement; decide
theorem bt5 : Statement .bt5 := by unfold Statement; decide
theorem bt6 : Statement .bt6 := by unfold Statement; decide
theorem bt7 : Statement .bt7 := by unfold Statement; decide
theorem bt8 : Statement .bt8 := by unfold Statement; decide
theorem bt9 : Statement .bt9 := by unfold Statement; decide
theorem bt10 : Statement .bt10 := by unfold Statement; decide
theorem bt11 : Statement .bt11 := by unfold Statement; decide
theorem bt12 : Statement .bt12 := by unfold Statement; decide
theorem bt13 : Statement .bt13 := by unfold Statement; decide
theorem bt14 : Statement .bt14 := by unfold Statement; decide
theorem bt15 : Statement .bt15 := by unfold Statement; decide
theorem bt16 : Statement .bt16 := by unfold Statement; decide
theorem bt17 : Statement .bt17 := by unfold Statement; decide
theorem bt18 : Statement .bt18 := by unfold Statement; decide
theorem bt19 : Statement .bt19 := by unfold Statement; decide
theorem bt20 : Statement .bt20 := by unfold Statement; decide
theorem bt21 : Statement .bt21 := by unfold Statement; decide
theorem bt22 : Statement .bt22 := by unfold Statement; decide
theorem bt23 : Statement .bt23 := by unfold Statement; decide
theorem bt24 : Statement .bt24 := by unfold Statement; decide
theorem bt25 : Statement .bt25 := by unfold Statement; decide
theorem bt26 : Statement .bt26 := by unfold Statement; decide
theorem bt27 : Statement .bt27 := by unfold Statement; decide
theorem bt28 : Statement .bt28 := by unfold Statement; decide
theorem bt29 : Statement .bt29 := by unfold Statement; decide
theorem bt30 : Statement .bt30 := by unfold Statement; decide
theorem bt31 : Statement .bt31 := by unfold Statement; decide
theorem bt32 : Statement .bt32 := by unfold Statement; decide
theorem bt33 : Statement .bt33 := by unfold Statement; decide
theorem bt34 : Statement .bt34 := by unfold Statement; decide
theorem bt35 : Statement .bt35 := by unfold Statement; decide
theorem bt36 : Statement .bt36 := by unfold Statement; decide
theorem bt37 : Statement .bt37 := by unfold Statement; decide
theorem bt38 : Statement .bt38 := by unfold Statement; decide
theorem bt39 : Statement .bt39 := by unfold Statement; decide
theorem bt40 : Statement .bt40 := by unfold Statement; decide
theorem bt41 : Statement .bt41 := by unfold Statement; decide
theorem bt42 : Statement .bt42 := by unfold Statement; decide
theorem bt43 : Statement .bt43 := by unfold Statement; decide
theorem bt44 : Statement .bt44 := by unfold Statement; decide
theorem bt45 : Statement .bt45 := by unfold Statement; decide
theorem bt46 : Statement .bt46 := by unfold Statement; decide
theorem bt47 : Statement .bt47 := by unfold Statement; decide
theorem bt48 : Statement .bt48 := by unfold Statement; decide
theorem bt49 : Statement .bt49 := by unfold Statement; decide
theorem bt50 : Statement .bt50 := by unfold Statement; decide
theorem bt51 : Statement .bt51 := by unfold Statement; decide
theorem bt52 : Statement .bt52 := by unfold Statement; decide
theorem bt53 : Statement .bt53 := by unfold Statement; decide
theorem bt54 : Statement .bt54 := by unfold Statement; decide
theorem bt55 : Statement .bt55 := by unfold Statement; decide
theorem bt56 : Statement .bt56 := by unfold Statement; decide
theorem bt57 : Statement .bt57 := by unfold Statement; decide
theorem bt58 : Statement .bt58 := by unfold Statement; decide
theorem bt59 : Statement .bt59 := by unfold Statement; decide
theorem bt60 : Statement .bt60 := by unfold Statement; decide
theorem bt61 : Statement .bt61 := by unfold Statement; decide
theorem bt62 : Statement .bt62 := by unfold Statement; decide
theorem bt63 : Statement .bt63 := by unfold Statement; decide
theorem bm64 : Statement .bm64 := by unfold Statement; decide
theorem bm128 : Statement .bm128 := by unfold Statement; decide
theorem bm192 : Statement .bm192 := by unfold Statement; decide
theorem bm256 : Statement .bm256 := by unfold Statement; decide
theorem bm320 : Statement .bm320 := by unfold Statement; decide
theorem bm384 : Statement .bm384 := by unfold Statement; decide
theorem bm448 : Statement .bm448 := by unfold Statement; decide
theorem bm512 : Statement .bm512 := by unfold Statement; decide
theorem bm576 : Statement .bm576 := by unfold Statement; decide
theorem bm640 : Statement .bm640 := by unfold Statement; decide
theorem bm704 : Statement .bm704 := by unfold Statement; decide
theorem bm768 : Statement .bm768 := by unfold Statement; decide
theorem bm832 : Statement .bm832 := by unfold Statement; decide
theorem bm896 : Statement .bm896 := by unfold Statement; decide
theorem bm960 : Statement .bm960 := by unfold Statement; decide
theorem bm1024 : Statement .bm1024 := by unfold Statement; decide
theorem bm1088 : Statement .bm1088 := by unfold Statement; decide
theorem bm1152 : Statement .bm1152 := by unfold Statement; decide
theorem bm1216 : Statement .bm1216 := by unfold Statement; decide
theorem bm1280 : Statement .bm1280 := by unfold Statement; decide
theorem bm1344 : Statement .bm1344 := by unfold Statement; decide
theorem bm1408 : Statement .bm1408 := by unfold Statement; decide
theorem bm1472 : Statement .bm1472 := by unfold Statement; decide
theorem bm1536 : Statement .bm1536 := by unfold Statement; decide
theorem bm1600 : Statement .bm1600 := by unfold Statement; decide
theorem bm1664 : Statement .bm1664 := by unfold Statement; decide
theorem bm1728 : Statement .bm1728 := by unfold Statement; decide
theorem bx1792 : Statement .bx1792 := by unfold Statement; decide
theorem bx1856 : Statement .bx1856 := by unfold Statement; decide
theorem bx1920 : Statement .bx1920 := by unfold Statement; decide
theorem bx1984 : Statement .bx1984 := by unfold Statement; decide
theorem bx2048 : Statement .bx2048 := by unfold Statement; decide
theorem bx2112 : Statement .bx2112 := by unfold Statement; decide
theorem bx2176 : Statement .bx2176 := by unfold Statement; decide
theorem bx2240 : Statement .bx2240 := by unfold Statement; decide
theorem bx2304 : Statement .bx2304 := by unfold Statement; decide
theorem bx2368 : Statement .bx2368 := by unfold Statement; decide
theorem bx2432 : Statement .bx2432 := by unfold Statement; decide
theorem bx2496 : Statement .bx2496 := by unfold Statement; decide
theorem bx2560 : Statement .bx2560 := by unfold Statement; decide
theorem beol : Statement .beol := by unfold Statement; decide
theorem p : Statement .p := by unfold Statement; decide
theorem h : Statement .h := by unfold Statement; decide
theorem v0 : Statement .v0 := by unfold Statement; decide
theorem vr1 : Statement .vr1 := by unfold Statement; decide
theorem vr2 : Statement .vr2 := by unfold Statement; decide
theorem vr3 : Statement .vr3 := by unfold Statement; decide
theorem vl1 : Statement .vl1 := by unfold Statement; decide
theorem vl2 : Statement .vl2 := by unfold Statement; decide
theorem vl3 : Statement .vl3 := by unfold Statement; decide
theorem ext : Statement .ext := by unfold Statement; decide
theorem eol : Statement .eol := by unfold Statement; decide

end Sys2Proof.Laws.RowOf
end

