-- ==== Sys2Proof/Tests/Slice0.lean ====
section
/-! SUPPORT. The model's own tests: ill-formed programs refused, every code word's decoding from bits written out
from spec/30_encoding.md R92 to R96, the spec's worked examples one step at a time, and for every statement with
hypotheses a witness that meets them. Expected values are the spec's or worked out by hand from its rules. -/

namespace Sys2Proof.Tests

open Sys2Proof Sys2Proof.Machine Sys2Proof.Safety

/-! ## Helpers -/

/-- A 1D line of width 10 in progress, on these stream bits. -/
def line1D (stream : List Nat) : State :=
  { State.reset with
    phase := .run1D, width := 10
    mem := { stream := bin stream, inRef := [], outRuns := [] } }

/-- A Group4 line of width 8 over the reference line [2, 3, 3], the spec's example (R175, R177). -/
def line2D (stream : List Nat) : State :=
  { State.reset with
    phase := .mode2D, width := 8, cmode := .group4, refLine := [2, 3, 3]
    mem := { stream := bin stream, inRef := [], outRuns := [] } }

/-- The same line between a Horizontal's two runs, after a first run of 3. -/
def afterFirst (stream : List Nat) : State :=
  { line2D stream with phase := .hrun2, rs := 3, runs := [3] }

/-- A finished 1D line [4, 6] of width 10. -/
def finished : State :=
  { State.reset with
    phase := .done, width := 10, cur := 6, color := .white, rs := 10, runs := [4, 6], kind := .line
    outCur := 6, outCount := 2
    mem := { stream := bin [1, 0, 1, 1, 0, 0], inRef := [], outRuns := [4, 6] } }

/-- The same line after the host has seen `DONE = 1`. -/
def seen : State := { finished with doneSeen := true }

/-- An idle engine with its inputs written: mode, width, reference line. -/
def readyFor (mode : BitVec 2) (width : Nat) (ref : List Nat) : State :=
  { State.reset with
    inMode := mode, inWidth := width, inRefCount := ref.length
    inWritten := { cur := true, width := true, mode := true, refCount := true }
    mem := { stream := bin [1, 1, 1], inRef := cellsOf 0 ref, outRuns := [] } }

/-- `s` with the host's actions. -/
def queued (s : State) (q : List HostAction) : State := { s with hostQueue := q }

/-- The result is a next state of which `p` holds. -/
def nextHas (r : Result) (p : State → Bool) : Bool :=
  match r with
  | .next s => p s
  | .fault _ => false
  | .refused _ => false

/-- The result is a refusal by this name. -/
def refusedAs (r : Result) (x : Refusal) : Bool :=
  match r with
  | .next _ => false
  | .fault _ => false
  | .refused y => x == y

/-- These bits are one code word of `t` and it is `i`. -/
def reads (t : Table) (digits : List Nat) (i : Instr) : Bool := decode t (bin digits) == .code i []

/-! ## WellFormed refuses ill-formed programs (R90, R102) -/

theorem smoke_black_first_in_1D : programWf false [.bt3] = false := by decide
theorem smoke_white_after_white : programWf false [.wt3, .wt2] = false := by decide
theorem smoke_black_makeup_in_white_run : programWf false [.wm64, .bt2] = false := by decide
theorem smoke_mode_code_in_1D : programWf false [.v0] = false := by decide
theorem smoke_run_code_in_mode2D : programWf true [.wt3] = false := by decide
theorem smoke_hrun1_black_under_white : programWf true [.h, .bt2] = false := by decide
theorem smoke_hrun2_white_under_white : programWf true [.h, .wt3, .wt2] = false := by decide
theorem smoke_nothing_after_eol : programWf false [.weol, .wt3] = false := by decide
theorem smoke_nothing_after_ext : programWf true [.ext, .v0] = false := by decide
theorem smoke_wrong_table : ¬ Instr.WfIn .white .bt3 := by decide
theorem smoke_mode_eol_in_run_table : ¬ Instr.WfIn .white .eol := by decide
theorem smoke_good_programs :
    programWf false [.wm64, .wt2, .bt3, .weol] = true ∧ programWf true [.h, .wt3, .bt2, .v0, .p] = true := by
  decide
theorem smoke_bad_parameters : ¬ Params.Ok { Config.resetParams with maxWidth := 0 } := by decide

/-! ## Every code word, bit by bit (R92 to R96) -/

theorem test_decode_whiteTerm_0 :
    (reads .white [0, 0, 1, 1, 0, 1, 0, 1] .wt0 &&
      reads .white [0, 0, 0, 1, 1, 1] .wt1 &&
      reads .white [0, 1, 1, 1] .wt2 &&
      reads .white [1, 0, 0, 0] .wt3 &&
      reads .white [1, 0, 1, 1] .wt4 &&
      reads .white [1, 1, 0, 0] .wt5 &&
      reads .white [1, 1, 1, 0] .wt6 &&
      reads .white [1, 1, 1, 1] .wt7 &&
      reads .white [1, 0, 0, 1, 1] .wt8 &&
      reads .white [1, 0, 1, 0, 0] .wt9 &&
      reads .white [0, 0, 1, 1, 1] .wt10 &&
      reads .white [0, 1, 0, 0, 0] .wt11 &&
      reads .white [0, 0, 1, 0, 0, 0] .wt12 &&
      reads .white [0, 0, 0, 0, 1, 1] .wt13 &&
      reads .white [1, 1, 0, 1, 0, 0] .wt14 &&
      reads .white [1, 1, 0, 1, 0, 1] .wt15) = true := by decide
theorem test_decode_whiteTerm_1 :
    (reads .white [1, 0, 1, 0, 1, 0] .wt16 &&
      reads .white [1, 0, 1, 0, 1, 1] .wt17 &&
      reads .white [0, 1, 0, 0, 1, 1, 1] .wt18 &&
      reads .white [0, 0, 0, 1, 1, 0, 0] .wt19 &&
      reads .white [0, 0, 0, 1, 0, 0, 0] .wt20 &&
      reads .white [0, 0, 1, 0, 1, 1, 1] .wt21 &&
      reads .white [0, 0, 0, 0, 0, 1, 1] .wt22 &&
      reads .white [0, 0, 0, 0, 1, 0, 0] .wt23 &&
      reads .white [0, 1, 0, 1, 0, 0, 0] .wt24 &&
      reads .white [0, 1, 0, 1, 0, 1, 1] .wt25 &&
      reads .white [0, 0, 1, 0, 0, 1, 1] .wt26 &&
      reads .white [0, 1, 0, 0, 1, 0, 0] .wt27 &&
      reads .white [0, 0, 1, 1, 0, 0, 0] .wt28 &&
      reads .white [0, 0, 0, 0, 0, 0, 1, 0] .wt29 &&
      reads .white [0, 0, 0, 0, 0, 0, 1, 1] .wt30 &&
      reads .white [0, 0, 0, 1, 1, 0, 1, 0] .wt31) = true := by decide
theorem test_decode_whiteTerm_2 :
    (reads .white [0, 0, 0, 1, 1, 0, 1, 1] .wt32 &&
      reads .white [0, 0, 0, 1, 0, 0, 1, 0] .wt33 &&
      reads .white [0, 0, 0, 1, 0, 0, 1, 1] .wt34 &&
      reads .white [0, 0, 0, 1, 0, 1, 0, 0] .wt35 &&
      reads .white [0, 0, 0, 1, 0, 1, 0, 1] .wt36 &&
      reads .white [0, 0, 0, 1, 0, 1, 1, 0] .wt37 &&
      reads .white [0, 0, 0, 1, 0, 1, 1, 1] .wt38 &&
      reads .white [0, 0, 1, 0, 1, 0, 0, 0] .wt39 &&
      reads .white [0, 0, 1, 0, 1, 0, 0, 1] .wt40 &&
      reads .white [0, 0, 1, 0, 1, 0, 1, 0] .wt41 &&
      reads .white [0, 0, 1, 0, 1, 0, 1, 1] .wt42 &&
      reads .white [0, 0, 1, 0, 1, 1, 0, 0] .wt43 &&
      reads .white [0, 0, 1, 0, 1, 1, 0, 1] .wt44 &&
      reads .white [0, 0, 0, 0, 0, 1, 0, 0] .wt45 &&
      reads .white [0, 0, 0, 0, 0, 1, 0, 1] .wt46 &&
      reads .white [0, 0, 0, 0, 1, 0, 1, 0] .wt47) = true := by decide
theorem test_decode_whiteTerm_3 :
    (reads .white [0, 0, 0, 0, 1, 0, 1, 1] .wt48 &&
      reads .white [0, 1, 0, 1, 0, 0, 1, 0] .wt49 &&
      reads .white [0, 1, 0, 1, 0, 0, 1, 1] .wt50 &&
      reads .white [0, 1, 0, 1, 0, 1, 0, 0] .wt51 &&
      reads .white [0, 1, 0, 1, 0, 1, 0, 1] .wt52 &&
      reads .white [0, 0, 1, 0, 0, 1, 0, 0] .wt53 &&
      reads .white [0, 0, 1, 0, 0, 1, 0, 1] .wt54 &&
      reads .white [0, 1, 0, 1, 1, 0, 0, 0] .wt55 &&
      reads .white [0, 1, 0, 1, 1, 0, 0, 1] .wt56 &&
      reads .white [0, 1, 0, 1, 1, 0, 1, 0] .wt57 &&
      reads .white [0, 1, 0, 1, 1, 0, 1, 1] .wt58 &&
      reads .white [0, 1, 0, 0, 1, 0, 1, 0] .wt59 &&
      reads .white [0, 1, 0, 0, 1, 0, 1, 1] .wt60 &&
      reads .white [0, 0, 1, 1, 0, 0, 1, 0] .wt61 &&
      reads .white [0, 0, 1, 1, 0, 0, 1, 1] .wt62 &&
      reads .white [0, 0, 1, 1, 0, 1, 0, 0] .wt63) = true := by decide
theorem test_decode_whiteMakeup_0 :
    (reads .white [1, 1, 0, 1, 1] .wm64 &&
      reads .white [1, 0, 0, 1, 0] .wm128 &&
      reads .white [0, 1, 0, 1, 1, 1] .wm192 &&
      reads .white [0, 1, 1, 0, 1, 1, 1] .wm256 &&
      reads .white [0, 0, 1, 1, 0, 1, 1, 0] .wm320 &&
      reads .white [0, 0, 1, 1, 0, 1, 1, 1] .wm384 &&
      reads .white [0, 1, 1, 0, 0, 1, 0, 0] .wm448 &&
      reads .white [0, 1, 1, 0, 0, 1, 0, 1] .wm512 &&
      reads .white [0, 1, 1, 0, 1, 0, 0, 0] .wm576 &&
      reads .white [0, 1, 1, 0, 0, 1, 1, 1] .wm640 &&
      reads .white [0, 1, 1, 0, 0, 1, 1, 0, 0] .wm704 &&
      reads .white [0, 1, 1, 0, 0, 1, 1, 0, 1] .wm768 &&
      reads .white [0, 1, 1, 0, 1, 0, 0, 1, 0] .wm832 &&
      reads .white [0, 1, 1, 0, 1, 0, 0, 1, 1] .wm896 &&
      reads .white [0, 1, 1, 0, 1, 0, 1, 0, 0] .wm960 &&
      reads .white [0, 1, 1, 0, 1, 0, 1, 0, 1] .wm1024) = true := by decide
theorem test_decode_whiteMakeup_1 :
    (reads .white [0, 1, 1, 0, 1, 0, 1, 1, 0] .wm1088 &&
      reads .white [0, 1, 1, 0, 1, 0, 1, 1, 1] .wm1152 &&
      reads .white [0, 1, 1, 0, 1, 1, 0, 0, 0] .wm1216 &&
      reads .white [0, 1, 1, 0, 1, 1, 0, 0, 1] .wm1280 &&
      reads .white [0, 1, 1, 0, 1, 1, 0, 1, 0] .wm1344 &&
      reads .white [0, 1, 1, 0, 1, 1, 0, 1, 1] .wm1408 &&
      reads .white [0, 1, 0, 0, 1, 1, 0, 0, 0] .wm1472 &&
      reads .white [0, 1, 0, 0, 1, 1, 0, 0, 1] .wm1536 &&
      reads .white [0, 1, 0, 0, 1, 1, 0, 1, 0] .wm1600 &&
      reads .white [0, 1, 1, 0, 0, 0] .wm1664 &&
      reads .white [0, 1, 0, 0, 1, 1, 0, 1, 1] .wm1728) = true := by decide
theorem test_decode_whiteExtended_0 :
    (reads .white [0, 0, 0, 0, 0, 0, 0, 1, 0, 0, 0] .wx1792 &&
      reads .white [0, 0, 0, 0, 0, 0, 0, 1, 1, 0, 0] .wx1856 &&
      reads .white [0, 0, 0, 0, 0, 0, 0, 1, 1, 0, 1] .wx1920 &&
      reads .white [0, 0, 0, 0, 0, 0, 0, 1, 0, 0, 1, 0] .wx1984 &&
      reads .white [0, 0, 0, 0, 0, 0, 0, 1, 0, 0, 1, 1] .wx2048 &&
      reads .white [0, 0, 0, 0, 0, 0, 0, 1, 0, 1, 0, 0] .wx2112 &&
      reads .white [0, 0, 0, 0, 0, 0, 0, 1, 0, 1, 0, 1] .wx2176 &&
      reads .white [0, 0, 0, 0, 0, 0, 0, 1, 0, 1, 1, 0] .wx2240 &&
      reads .white [0, 0, 0, 0, 0, 0, 0, 1, 0, 1, 1, 1] .wx2304 &&
      reads .white [0, 0, 0, 0, 0, 0, 0, 1, 1, 1, 0, 0] .wx2368 &&
      reads .white [0, 0, 0, 0, 0, 0, 0, 1, 1, 1, 0, 1] .wx2432 &&
      reads .white [0, 0, 0, 0, 0, 0, 0, 1, 1, 1, 1, 0] .wx2496 &&
      reads .white [0, 0, 0, 0, 0, 0, 0, 1, 1, 1, 1, 1] .wx2560) = true := by decide
theorem test_decode_whiteEol_0 :
    (reads .white [0, 0, 0, 0, 0, 0, 0, 0, 0, 0, 0, 1] .weol) = true := by decide
theorem test_decode_blackTerm_0 :
    (reads .black [0, 0, 0, 0, 1, 1, 0, 1, 1, 1] .bt0 &&
      reads .black [0, 1, 0] .bt1 &&
      reads .black [1, 1] .bt2 &&
      reads .black [1, 0] .bt3 &&
      reads .black [0, 1, 1] .bt4 &&
      reads .black [0, 0, 1, 1] .bt5 &&
      reads .black [0, 0, 1, 0] .bt6 &&
      reads .black [0, 0, 0, 1, 1] .bt7 &&
      reads .black [0, 0, 0, 1, 0, 1] .bt8 &&
      reads .black [0, 0, 0, 1, 0, 0] .bt9 &&
      reads .black [0, 0, 0, 0, 1, 0, 0] .bt10 &&
      reads .black [0, 0, 0, 0, 1, 0, 1] .bt11 &&
      reads .black [0, 0, 0, 0, 1, 1, 1] .bt12 &&
      reads .black [0, 0, 0, 0, 0, 1, 0, 0] .bt13 &&
      reads .black [0, 0, 0, 0, 0, 1, 1, 1] .bt14 &&
      reads .black [0, 0, 0, 0, 1, 1, 0, 0, 0] .bt15) = true := by decide
theorem test_decode_blackTerm_1 :
    (reads .black [0, 0, 0, 0, 0, 1, 0, 1, 1, 1] .bt16 &&
      reads .black [0, 0, 0, 0, 0, 1, 1, 0, 0, 0] .bt17 &&
      reads .black [0, 0, 0, 0, 0, 0, 1, 0, 0, 0] .bt18 &&
      reads .black [0, 0, 0, 0, 1, 1, 0, 0, 1, 1, 1] .bt19 &&
      reads .black [0, 0, 0, 0, 1, 1, 0, 1, 0, 0, 0] .bt20 &&
      reads .black [0, 0, 0, 0, 1, 1, 0, 1, 1, 0, 0] .bt21 &&
      reads .black [0, 0, 0, 0, 0, 1, 1, 0, 1, 1, 1] .bt22 &&
      reads .black [0, 0, 0, 0, 0, 1, 0, 1, 0, 0, 0] .bt23 &&
      reads .black [0, 0, 0, 0, 0, 0, 1, 0, 1, 1, 1] .bt24 &&
      reads .black [0, 0, 0, 0, 0, 0, 1, 1, 0, 0, 0] .bt25 &&
      reads .black [0, 0, 0, 0, 1, 1, 0, 0, 1, 0, 1, 0] .bt26 &&
      reads .black [0, 0, 0, 0, 1, 1, 0, 0, 1, 0, 1, 1] .bt27 &&
      reads .black [0, 0, 0, 0, 1, 1, 0, 0, 1, 1, 0, 0] .bt28 &&
      reads .black [0, 0, 0, 0, 1, 1, 0, 0, 1, 1, 0, 1] .bt29 &&
      reads .black [0, 0, 0, 0, 0, 1, 1, 0, 1, 0, 0, 0] .bt30 &&
      reads .black [0, 0, 0, 0, 0, 1, 1, 0, 1, 0, 0, 1] .bt31) = true := by decide
theorem test_decode_blackTerm_2 :
    (reads .black [0, 0, 0, 0, 0, 1, 1, 0, 1, 0, 1, 0] .bt32 &&
      reads .black [0, 0, 0, 0, 0, 1, 1, 0, 1, 0, 1, 1] .bt33 &&
      reads .black [0, 0, 0, 0, 1, 1, 0, 1, 0, 0, 1, 0] .bt34 &&
      reads .black [0, 0, 0, 0, 1, 1, 0, 1, 0, 0, 1, 1] .bt35 &&
      reads .black [0, 0, 0, 0, 1, 1, 0, 1, 0, 1, 0, 0] .bt36 &&
      reads .black [0, 0, 0, 0, 1, 1, 0, 1, 0, 1, 0, 1] .bt37 &&
      reads .black [0, 0, 0, 0, 1, 1, 0, 1, 0, 1, 1, 0] .bt38 &&
      reads .black [0, 0, 0, 0, 1, 1, 0, 1, 0, 1, 1, 1] .bt39 &&
      reads .black [0, 0, 0, 0, 0, 1, 1, 0, 1, 1, 0, 0] .bt40 &&
      reads .black [0, 0, 0, 0, 0, 1, 1, 0, 1, 1, 0, 1] .bt41 &&
      reads .black [0, 0, 0, 0, 1, 1, 0, 1, 1, 0, 1, 0] .bt42 &&
      reads .black [0, 0, 0, 0, 1, 1, 0, 1, 1, 0, 1, 1] .bt43 &&
      reads .black [0, 0, 0, 0, 0, 1, 0, 1, 0, 1, 0, 0] .bt44 &&
      reads .black [0, 0, 0, 0, 0, 1, 0, 1, 0, 1, 0, 1] .bt45 &&
      reads .black [0, 0, 0, 0, 0, 1, 0, 1, 0, 1, 1, 0] .bt46 &&
      reads .black [0, 0, 0, 0, 0, 1, 0, 1, 0, 1, 1, 1] .bt47) = true := by decide
theorem test_decode_blackTerm_3 :
    (reads .black [0, 0, 0, 0, 0, 1, 1, 0, 0, 1, 0, 0] .bt48 &&
      reads .black [0, 0, 0, 0, 0, 1, 1, 0, 0, 1, 0, 1] .bt49 &&
      reads .black [0, 0, 0, 0, 0, 1, 0, 1, 0, 0, 1, 0] .bt50 &&
      reads .black [0, 0, 0, 0, 0, 1, 0, 1, 0, 0, 1, 1] .bt51 &&
      reads .black [0, 0, 0, 0, 0, 0, 1, 0, 0, 1, 0, 0] .bt52 &&
      reads .black [0, 0, 0, 0, 0, 0, 1, 1, 0, 1, 1, 1] .bt53 &&
      reads .black [0, 0, 0, 0, 0, 0, 1, 1, 1, 0, 0, 0] .bt54 &&
      reads .black [0, 0, 0, 0, 0, 0, 1, 0, 0, 1, 1, 1] .bt55 &&
      reads .black [0, 0, 0, 0, 0, 0, 1, 0, 1, 0, 0, 0] .bt56 &&
      reads .black [0, 0, 0, 0, 0, 1, 0, 1, 1, 0, 0, 0] .bt57 &&
      reads .black [0, 0, 0, 0, 0, 1, 0, 1, 1, 0, 0, 1] .bt58 &&
      reads .black [0, 0, 0, 0, 0, 0, 1, 0, 1, 0, 1, 1] .bt59 &&
      reads .black [0, 0, 0, 0, 0, 0, 1, 0, 1, 1, 0, 0] .bt60 &&
      reads .black [0, 0, 0, 0, 0, 1, 0, 1, 1, 0, 1, 0] .bt61 &&
      reads .black [0, 0, 0, 0, 0, 1, 1, 0, 0, 1, 1, 0] .bt62 &&
      reads .black [0, 0, 0, 0, 0, 1, 1, 0, 0, 1, 1, 1] .bt63) = true := by decide
theorem test_decode_blackMakeup_0 :
    (reads .black [0, 0, 0, 0, 0, 0, 1, 1, 1, 1] .bm64 &&
      reads .black [0, 0, 0, 0, 1, 1, 0, 0, 1, 0, 0, 0] .bm128 &&
      reads .black [0, 0, 0, 0, 1, 1, 0, 0, 1, 0, 0, 1] .bm192 &&
      reads .black [0, 0, 0, 0, 0, 1, 0, 1, 1, 0, 1, 1] .bm256 &&
      reads .black [0, 0, 0, 0, 0, 0, 1, 1, 0, 0, 1, 1] .bm320 &&
      reads .black [0, 0, 0, 0, 0, 0, 1, 1, 0, 1, 0, 0] .bm384 &&
      reads .black [0, 0, 0, 0, 0, 0, 1, 1, 0, 1, 0, 1] .bm448 &&
      reads .black [0, 0, 0, 0, 0, 0, 1, 1, 0, 1, 1, 0, 0] .bm512 &&
      reads .black [0, 0, 0, 0, 0, 0, 1, 1, 0, 1, 1, 0, 1] .bm576 &&
      reads .black [0, 0, 0, 0, 0, 0, 1, 0, 0, 1, 0, 1, 0] .bm640 &&
      reads .black [0, 0, 0, 0, 0, 0, 1, 0, 0, 1, 0, 1, 1] .bm704 &&
      reads .black [0, 0, 0, 0, 0, 0, 1, 0, 0, 1, 1, 0, 0] .bm768 &&
      reads .black [0, 0, 0, 0, 0, 0, 1, 0, 0, 1, 1, 0, 1] .bm832 &&
      reads .black [0, 0, 0, 0, 0, 0, 1, 1, 1, 0, 0, 1, 0] .bm896 &&
      reads .black [0, 0, 0, 0, 0, 0, 1, 1, 1, 0, 0, 1, 1] .bm960 &&
      reads .black [0, 0, 0, 0, 0, 0, 1, 1, 1, 0, 1, 0, 0] .bm1024) = true := by decide
theorem test_decode_blackMakeup_1 :
    (reads .black [0, 0, 0, 0, 0, 0, 1, 1, 1, 0, 1, 0, 1] .bm1088 &&
      reads .black [0, 0, 0, 0, 0, 0, 1, 1, 1, 0, 1, 1, 0] .bm1152 &&
      reads .black [0, 0, 0, 0, 0, 0, 1, 1, 1, 0, 1, 1, 1] .bm1216 &&
      reads .black [0, 0, 0, 0, 0, 0, 1, 0, 1, 0, 0, 1, 0] .bm1280 &&
      reads .black [0, 0, 0, 0, 0, 0, 1, 0, 1, 0, 0, 1, 1] .bm1344 &&
      reads .black [0, 0, 0, 0, 0, 0, 1, 0, 1, 0, 1, 0, 0] .bm1408 &&
      reads .black [0, 0, 0, 0, 0, 0, 1, 0, 1, 0, 1, 0, 1] .bm1472 &&
      reads .black [0, 0, 0, 0, 0, 0, 1, 0, 1, 1, 0, 1, 0] .bm1536 &&
      reads .black [0, 0, 0, 0, 0, 0, 1, 0, 1, 1, 0, 1, 1] .bm1600 &&
      reads .black [0, 0, 0, 0, 0, 0, 1, 1, 0, 0, 1, 0, 0] .bm1664 &&
      reads .black [0, 0, 0, 0, 0, 0, 1, 1, 0, 0, 1, 0, 1] .bm1728) = true := by decide
theorem test_decode_blackExtended_0 :
    (reads .black [0, 0, 0, 0, 0, 0, 0, 1, 0, 0, 0] .bx1792 &&
      reads .black [0, 0, 0, 0, 0, 0, 0, 1, 1, 0, 0] .bx1856 &&
      reads .black [0, 0, 0, 0, 0, 0, 0, 1, 1, 0, 1] .bx1920 &&
      reads .black [0, 0, 0, 0, 0, 0, 0, 1, 0, 0, 1, 0] .bx1984 &&
      reads .black [0, 0, 0, 0, 0, 0, 0, 1, 0, 0, 1, 1] .bx2048 &&
      reads .black [0, 0, 0, 0, 0, 0, 0, 1, 0, 1, 0, 0] .bx2112 &&
      reads .black [0, 0, 0, 0, 0, 0, 0, 1, 0, 1, 0, 1] .bx2176 &&
      reads .black [0, 0, 0, 0, 0, 0, 0, 1, 0, 1, 1, 0] .bx2240 &&
      reads .black [0, 0, 0, 0, 0, 0, 0, 1, 0, 1, 1, 1] .bx2304 &&
      reads .black [0, 0, 0, 0, 0, 0, 0, 1, 1, 1, 0, 0] .bx2368 &&
      reads .black [0, 0, 0, 0, 0, 0, 0, 1, 1, 1, 0, 1] .bx2432 &&
      reads .black [0, 0, 0, 0, 0, 0, 0, 1, 1, 1, 1, 0] .bx2496 &&
      reads .black [0, 0, 0, 0, 0, 0, 0, 1, 1, 1, 1, 1] .bx2560) = true := by decide
theorem test_decode_blackEol_0 :
    (reads .black [0, 0, 0, 0, 0, 0, 0, 0, 0, 0, 0, 1] .beol) = true := by decide
theorem test_decode_mode_0 :
    (reads .mode [0, 0, 0, 1] .p &&
      reads .mode [0, 0, 1] .h &&
      reads .mode [1] .v0 &&
      reads .mode [0, 1, 1] .vr1 &&
      reads .mode [0, 0, 0, 0, 1, 1] .vr2 &&
      reads .mode [0, 0, 0, 0, 0, 1, 1] .vr3 &&
      reads .mode [0, 1, 0] .vl1 &&
      reads .mode [0, 0, 0, 0, 1, 0] .vl2 &&
      reads .mode [0, 0, 0, 0, 0, 1, 0] .vl3 &&
      reads .mode [0, 0, 0, 0, 0, 0, 1] .ext &&
      reads .mode [0, 0, 0, 0, 0, 0, 0, 0, 0, 0, 0, 1] .eol) = true := by decide

/-! ## Failed walks (R99, R122) -/

theorem test_eod_empty : decode .white [] = .eod ∧ decode .mode [] = .eod := by decide
theorem test_eod_inside_eol : decode .black (bin [0, 0, 0, 0, 0, 0, 0, 0, 0, 0, 0]) = .eod := by decide
theorem test_invalid_twelve_zeros : decode .white (bin [0, 0, 0, 0, 0, 0, 0, 0, 0, 0, 0, 0]) = .invalid := by
  decide
theorem test_mode_rom_hop : romDecode .mode (bin [0, 0, 0, 0, 0, 0, 0, 0, 0, 0, 0, 1]) = .code .eol [] := by
  decide

/-! ## The opcode table's numbering (R101): WT2 is 0111 and V0 is 1 at the head of a 13-bit window -/

theorem test_table_word_wt2 : decodeTableWord 16 0b0111000000000 = some .wt2 := by decide
theorem test_table_word_v0 : decodeTableWord 16 0b1000000000000 = some .v0 := by decide
theorem test_placed_word_runs :
    nextHas (step (State.reset.withFetchWord 16 0b1000000000000)) (fun t => t.runs == [8]) = true := by decide

/-! ## Worked examples of spec/41_run_codes.md -/

/-- R141's example. -/
theorem test_wt3_run1D :
    nextHas (step (line1D [1, 0, 0, 0])) (fun t =>
      t.cur == 4 && t.runs == [3] && t.rs == 3 && t.color == .black) = true := by decide
/-- R145's example. -/
theorem test_bt2_run1D :
    nextHas (step { line1D [1, 1] with rs := 3, runs := [3], color := .black }) (fun t =>
      t.cur == 2 && t.runs == [3, 2] && t.rs == 5 && t.color == .white) = true := by decide
/-- R142's example. -/
theorem test_wm64 :
    nextHas (step (line1D [1, 1, 0, 1, 1])) (fun t => t.cur == 5 && t.racc == 64 && t.runs == []) = true := by
  decide
/-- R143's example, its first code word. -/
theorem test_wx2560 :
    nextHas (step (line1D [0, 0, 0, 0, 0, 0, 0, 1, 1, 1, 1, 1])) (fun t =>
      t.cur == 12 && t.racc == 2560) = true := by decide
/-- R146's example. -/
theorem test_bm64 :
    nextHas (step { line1D [0, 0, 0, 0, 0, 0, 1, 1, 1, 1] with color := .black }) (fun t =>
      t.cur == 10 && t.racc == 64) = true := by decide
/-- R147's example, its first code word. -/
theorem test_bx1792 :
    nextHas (step { line1D [0, 0, 0, 0, 0, 0, 0, 1, 0, 0, 0] with color := .black }) (fun t =>
      t.cur == 11 && t.racc == 1792) = true := by decide
/-- R144's example. -/
theorem test_weol :
    nextHas (step (line1D [0, 0, 0, 0, 0, 0, 0, 0, 0, 0, 0, 1])) (fun t =>
      t.cur == 12 && t.phase == .done && t.kind == .eos && t.outCount == 0) = true := by decide
/-- R148's example. -/
theorem test_beol :
    nextHas (step { line1D [0, 0, 0, 0, 0, 0, 0, 0, 0, 0, 0, 1] with color := .black, rs := 5, runs := [5] })
      (fun t => t.kind == .eos && resultRuns t == [5] && t.outCur == 12) = true := by decide

/-! ## Worked examples of spec/42_mode_codes.md -/

/-- R171 to R173 on R175's example: b1 = 2 and b2 = 5 at line start. -/
theorem test_changing_elements :
    changingElements [2, 3, 3] 8 = [2, 5] ∧ b1 (line2D []) = 2 ∧ b2 (line2D []) = 5 := by decide
/-- R171: a zero-length run makes no changing element; a line that starts Black has one at 0. -/
theorem test_changing_elements_zero_runs :
    changingElements [2, 0, 6] 8 = [] ∧ changingElements [0, 8] 8 = [0] := by decide
theorem test_p :
    nextHas (step (line2D [0, 0, 0, 1])) (fun t => t.a0 == 5 && t.runs == [] && t.cur == 4) = true := by decide
/-- R176's example, `H WT3 BT2`, code word by code word. -/
theorem test_h :
    nextHas (step (line2D [0, 0, 1])) (fun t => t.phase == .hrun1 && t.cur == 3 && t.runs == []) = true := by
  decide
theorem test_wt3_hrun1 :
    nextHas (exec .wt3 { line2D [1, 0, 0, 0] with phase := .hrun1 }) (fun t =>
      t.phase == .hrun2 && t.runs == [3] && t.rs == 3 && t.a0 == -1 && t.color == .white) = true := by decide
theorem test_bt2_hrun2 :
    nextHas (step (afterFirst [1, 1])) (fun t =>
      t.phase == .mode2D && t.runs == [3, 2] && t.rs == 5 && t.a0 == 5 && t.color == .white) = true := by decide
/-- R177's example. -/
theorem test_v0 :
    nextHas (step (line2D [1])) (fun t =>
      t.runs == [2] && t.a0 == 2 && t.rs == 2 && t.color == .black && t.cur == 1) = true := by decide
theorem test_vr1 : nextHas (step (line2D [0, 1, 1])) (fun t => t.runs == [3]) = true := by decide
theorem test_vr2 : nextHas (step (line2D [0, 0, 0, 0, 1, 1])) (fun t => t.runs == [4]) = true := by decide
/-- R180's example. -/
theorem test_vr3_overflow :
    nextHas (step { line2D [0, 0, 0, 0, 0, 1, 1] with refLine := [6, 2] }) (fun t =>
      t.err == .runOverflow && t.errAcc == 9 && t.errExp == 8 && t.cur == 7 && t.outCur == 7) = true := by decide
theorem test_vl1 : nextHas (step (line2D [0, 1, 0])) (fun t => t.runs == [1]) = true := by decide
/-- R182's example. -/
theorem test_vl2_zero_run :
    nextHas (step (line2D [0, 0, 0, 0, 1, 0])) (fun t => t.runs == [0] && t.color == .black) = true := by decide
/-- R183's example. -/
theorem test_vl3_left_of_a0 :
    nextHas (step (line2D [0, 0, 0, 0, 0, 1, 0])) (fun t =>
      t.err == .invalidModeCode && t.cur == 0 && t.errOffset == 0) = true := by decide
/-- R184's example. -/
theorem test_ext :
    nextHas (step (line2D [0, 0, 0, 0, 0, 0, 1, 1, 1, 1])) (fun t =>
      t.err == .invalidModeCode && t.cur == 0 && t.kind == .error) = true := by decide
/-- R185's example. -/
theorem test_eol :
    nextHas (step (line2D [0, 0, 0, 0, 0, 0, 0, 0, 0, 0, 0, 1])) (fun t =>
      t.kind == .eos && t.outCount == 0 && t.cur == 12) = true := by decide

/-! ## The assembler (R103's examples) -/

theorem test_expand_2561 : expandRun .white 2561 = [.wx2560, .wt1] := by decide
theorem test_expand_63 : expandRun .black 63 = [.bt63] := by decide
theorem test_expand_1728 : expandRun .white 1728 = [.wm1728, .wt0] := by decide
theorem test_expand_2624 : expandRun .white 2624 = [.wx2560, .wm64, .wt0] := by decide

/-! ## Witnesses: for each statement with hypotheses, states and operands that meet them -/

theorem witness_CodeSetsPrefixFree :
    (Instr.table .wt3 = .white ∧ encode .wt3 <+: bin [1, 0, 0, 0, 1]) ∧
    (Instr.table .bm512 = .black ∧ (encode .bm512).length = 13) ∧
    (Instr.table .eol = .mode ∧ 7 < (encode .eol).length) := by decide

theorem witness_EndOfDataRule :
    (bin [0, 0, 0, 0, 0, 0, 0, 0, 0, 0, 0]).length < Table.maxLen .white ∧
    (∀ row ∈ codeRows .white, ¬ row.word <+: bin [0, 0, 0, 0, 0, 0, 0, 0, 0, 0, 0]) ∧
    decode .mode (bin [0, 0, 0, 0, 0, 0, 0, 0, 1]) = .invalid := by decide

theorem witness_IllegalPatterns :
    decode .white (toBits 12 0) = .invalid ∧ decode .white (toBits 12 1) = .code .weol [] ∧
    decode .white (toBits 12 2) = .invalid ∧ decode .white (toBits 12 15) = .invalid ∧
    decode .white (toBits 12 16) ≠ .invalid ∧
    decode .black (toBits 13 1) = .invalid ∧ decode .black (toBits 13 3) = .code .beol [true] ∧
    decode .black (toBits 13 4) = .invalid ∧ decode .black (toBits 13 31) = .invalid ∧
    decode .black (toBits 13 32) ≠ .invalid ∧
    decode .mode (toBits 12 31) = .invalid ∧ decode .mode (toBits 12 32) ≠ .invalid ∧
    decode .mode (toBits 12 1) = .code .eol [] := by decide

theorem witness_RunTableValues :
    (⟨.wt63, 8, 0b00110100, 63⟩ : CodeRow) ∈ codeRows .white ∧
    (⟨.bx2560, 12, 0b000000011111, 2560⟩ : CodeRow) ∈ codeRows .black ∧
    (⟨.weol, 12, 1, 4095⟩ : CodeRow) ∈ codeRows .white := by decide

theorem witness_RomIndicesInRange :
    romEntry .mode (peekBits 7 (bin [0, 0, 0, 0, 0, 0, 0, 1, 1, 1, 1, 1])).toNat = some ⟨128, 0, 0⟩ ∧
    hopIndex .mode (bin [0, 0, 0, 0, 0, 0, 0, 1, 1, 1, 1, 1]) 128 = 159 := by decide

theorem witness_WindowMatchesRow :
    8191 < 2 ^ 13 ∧ 8191 &&& Instr.mask .bt2 = Instr.matchValue .bt2 := by decide

theorem witness_BitStreamPort :
    13 ≤ 13 ∧ (peekBits 13 (remaining (line1D [1, 1]))).getLsbD 12 = true ∧
    4 ≤ (line1D [1, 0, 0, 0]).mem.stream.length - (line1D [1, 0, 0, 0]).cur ∧
    FitsCur 4 (line1D [1, 0, 0, 0]) := by decide

theorem witness_ResetAtAnyTime : (queued (afterFirst [1, 1]) [.reset]).hostQueue = .reset :: [] := rfl

theorem witness_StatusFields :
    finished.phase = .done ∧ (line1D []).phase ≠ .done ∧ statusWord finished = 2#16 ∧
    statusWord (line1D []) = 1#16 := by decide

/-- The invariant in a 1D line about to read WT3, at its start. -/
theorem inv_line1D : Inv (line1D [1, 0, 0, 0]) :=
  ⟨by decide, by decide, by decide, by decide, by decide, by decide, by decide, by decide⟩

theorem inv_line2D : Inv (line2D [1]) :=
  ⟨by decide, by decide, by decide, by decide, by decide, by decide, by decide, by decide⟩

theorem inv_line2D_two : Inv (line2D [1, 1]) :=
  ⟨by decide, by decide, by decide, by decide, by decide, by decide, by decide, by decide⟩

theorem inv_afterFirst : Inv (afterFirst [1, 1]) :=
  ⟨by decide, by decide, by decide, by decide, by decide, by decide, by decide, by decide⟩

theorem inv_finished : Inv finished :=
  ⟨by decide, by decide, by decide, by decide, by decide, by decide, by decide, by decide⟩

theorem inv_full_line : Inv (line1D [0, 0, 1, 1, 1]) :=
  ⟨by decide, by decide, by decide, by decide, by decide, by decide, by decide, by decide⟩

/-- The invariant holds in busy states of three phases and in a finished one, and each of them steps. -/
theorem witness_StepKeepsInvariant :
    (Inv (line1D [1, 0, 0, 0]) ∧ Inv (line2D [1]) ∧ Inv (afterFirst [1, 1]) ∧ Inv finished) ∧
    nextHas (step (line1D [1, 0, 0, 0])) (fun t => t.runs == [3]) = true ∧
    nextHas (step (line2D [1])) (fun t => t.runs == [2]) = true ∧
    nextHas (step (afterFirst [1, 1])) (fun t => t.runs == [3, 2]) = true ∧
    nextHas (step (queued finished [.ack])) (fun t => t.phase == .idle) = true :=
  ⟨⟨inv_line1D, inv_line2D, inv_afterFirst, inv_finished⟩, by decide⟩

theorem witness_StartBeginsCommand :
    (∀ m ∈ [0#2, 1#2, 2#2],
      let s := queued (readyFor m 8 [8]) [.start]
      s.hostQueue = .start :: [] ∧ (s.phase = .idle ∨ s.phase = .done) ∧ s.inWritten.cur = true ∧
        s.inWritten.width = true ∧ s.inWritten.mode = true ∧ s.inWritten.refCount = true ∧
        1 ≤ s.inWidth ∧ s.inWidth ≤ s.params.maxWidth ∧ s.inWidth < 2 ^ s.params.accBits ∧ s.inCur ≤ s.mem.stream.length ∧
        s.mem.stream.length < 2 ^ s.params.curBits ∧ s.inRefCount ≤ s.params.maxRuns ∧ s.inMode = m) ∧
    readCells 1 0 (readyFor 1 8 [8]).mem.inRef = some [8] ∧
    (readyFor 2 65535 [65535]).inWidth = (readyFor 2 65535 [65535]).params.maxWidth ∧
    nextHas (step (queued (readyFor 2 8 [8]) [.start])) (fun t => t.phase == .mode2D) = true := by decide

theorem witness_StartBeginsCommand_ref :
    0 < (readyFor 0 8 [8]).inRefCount ∧ readCell 0 (readyFor 0 8 [8]).mem.inRef = some 8 ∧
    nextHas (step (queued (readyFor 0 8 [8]) [.start])) (fun t => t.phase == .run1D && t.refLine == [8])
      = true := by decide

/-- R152: with P_ACC_BITS = 4 a START is answered for W = 15 and refused for W = 16 and 17. -/
theorem test_start_width_within_acc_bits :
    let p := { Config.resetParams with accBits := 4 }
    nextHas (step (queued { readyFor 2 15 [15] with params := p } [.start])) (fun t => t.width == 15) = true ∧
    refusedAs (step (queued { readyFor 2 16 [16] with params := p } [.start])) .widthNotAdmitted = true ∧
    refusedAs (step (queued { readyFor 2 17 [17] with params := p } [.start])) .widthNotAdmitted = true := by
  decide

theorem witness_StartNotAdmittedIsRefused :
    refusedAs (step (queued { line1D [] with inWritten := (readyFor 0 8 []).inWritten } [.start]))
      .strobeNotAccepted = true ∧
    refusedAs (step (queued (readyFor 0 0 []) [.start])) .widthNotAdmitted = true ∧
    refusedAs (step (queued (readyFor 0 65536 []) [.start])) .widthNotAdmitted = true ∧
    refusedAs (step (queued { readyFor 0 8 [] with inCur := 4 } [.start])) .cursorPastEnd = true ∧
    refusedAs (step (queued { readyFor 0 8 [] with params := { Config.resetParams with curBits := 1 } }
      [.start])) .streamTooLong = true ∧
    refusedAs (step (queued (readyFor 3 8 []) [.start])) .reservedMode = true ∧
    refusedAs (step (queued (readyFor 2 8 [7]) [.start])) .referenceIllFormed = true ∧
    refusedAs (step (queued (readyFor 2 8 []) [.start])) .referenceIllFormed = true ∧
    refusedAs (step (queued { State.reset with inWidth := 8 } [.start])) .inputNotWritten = true := by decide

theorem witness_AckAndAbort :
    (queued finished [.ack]).hostQueue = .ack :: [] ∧ (queued finished [.ack]).phase = .done ∧
    (queued (line1D []) [.ack]).phase ≠ .done ∧ (queued (line1D []) [.abort]).hostQueue = .abort :: [] := by
  decide

theorem witness_HostWriteRights :
    (line1D []).busy = true ∧ HostReg.isResult .outCur = true ∧ State.reset.busy = false ∧
    2 ^ 32 - 1 < 2 ^ State.reset.params.curBits ∧ 2 ^ State.reset.params.curBits ≤ 2 ^ 32 ∧ 3 < 4 ∧
    65536 ≤ State.reset.params.maxRuns ∧ State.reset.params.maxRuns < 65537 ∧
    65535 < State.reset.params.maxRuns ∧ State.reset.params.maxRuns ≤ 65536 ∧
    refusedAs (step (queued State.reset [.write .inMode 4])) .valueTooWide = true ∧
    nextHas (step (queued State.reset [.write .inMode 3])) (fun t => t.inMode == 3#2) = true := by decide

/-- Unseen results are refused in DONE and outside it; a STATUS read in DONE opens them, one before DONE does not. -/
theorem witness_HostReadRights :
    noSuchReg .outCur (line1D []) = false ∧ HostReg.isResult .outCur = true ∧ (line1D []).phase ≠ .done ∧
    finished.phase = .done ∧ finished.doneSeen = false ∧
    refusedAs (step (queued finished [.read .outCur])) .resultNotValid = true ∧
    nextHas (step (queued finished [.read .status])) (fun t => t.doneSeen && t.readData == 2) = true ∧
    nextHas (step (queued (line1D []) [.read .status])) (fun t => !t.doneSeen && t.readData == 1) = true ∧
    noSuchReg (.outRuns 1) seen = false ∧ seen.phase = .done ∧ seen.doneSeen = true ∧
    1 < seen.outCount ∧ seen.mem.outRuns[1]? = some 6 ∧
    nextHas (step (queued seen [.read (.outRuns 1)])) (fun t => t.readData == 6) = true ∧
    State.reset.params.maxRuns ≤ 65536 := by decide

theorem witness_RunBufferCells :
    (1 : Nat) ≠ 0 ∧ readCells 2 0 (writeCell 1 5 (writeCell 0 3 [])) = some [3, 5] := by decide

theorem witness_FillOrderMapsBytes :
    [0x80#8, 0x01#8][1]? = some 0x01#8 ∧ 7 < 8 ∧
    streamOfBytes .msbFirst [0x80#8] = bin [1, 0, 0, 0, 0, 0, 0, 0] ∧
    (line1D []).busy = true ∧ State.reset.busy = false := by decide

theorem witness_StepRunsDecoded :
    currentTable (line1D [1, 0, 0, 0]) = some .white ∧
    decode .white (remaining (line1D [1, 0, 0, 0])) = .code .wt3 [] ∧
    currentTable (queued (line2D [1]) [.yield]) = some .mode ∧
    decode .mode (remaining (queued (line2D [1]) [.yield])) = .code .v0 [] ∧
    nextHas (step (queued (line2D [1]) [.yield])) (fun t => t.runs == [2] && t.hostQueue == []) = true := by
  decide

theorem witness_FailedWalkReported :
    currentTable (line1D [0, 0, 0, 0, 0, 0, 0, 0, 0, 0, 1, 0]) = some .white ∧
    decode .white (remaining (line1D [0, 0, 0, 0, 0, 0, 0, 0, 0, 0, 1, 0])) = .invalid ∧
    currentTable (line2D [0, 0, 0, 0, 0, 0, 0, 1]) = some .mode ∧
    decode .mode (remaining (line2D [0, 0, 0, 0, 0, 0, 0, 1])) = .invalid ∧
    decode .mode (remaining (line2D [])) = .eod := by decide

theorem witness_IdleChangesNothing :
    State.reset.phase = .idle ∧ finished.phase = .done ∧ finished.hostQueue = [] ∧
    (queued State.reset [.yield]).hostQueue = .yield :: [] := by decide

theorem witness_OnlyTheHostLeavesDone :
    finished.phase = .done ∧
    nextHas (step (queued finished [.ack])) (fun t => t.phase != .done) = true ∧
    State.reset.phase = .idle ∧
    nextHas (step (queued (readyFor 0 8 []) [.start])) (fun t => t.phase != .idle) = true := by decide

theorem witness_PhaseTransitions :
    nextHas (engineStep (line1D [1, 0, 0, 0])) (fun t => t.phase == .run1D) = true ∧
    nextHas (engineStep (line2D [0, 0, 1])) (fun t => t.phase == .hrun1) = true ∧
    nextHas (engineStep { line2D [1, 0, 0, 0] with phase := .hrun1 }) (fun t => t.phase == .hrun2) = true ∧
    nextHas (engineStep (afterFirst [1, 1])) (fun t => t.phase == .mode2D) = true ∧
    nextHas (engineStep finished) (fun t => t == finished) = true := by decide

/-- The three ends of a run in RUN1D: overflow (11 of 10), complete (10 of 10), in progress (9 of 10). -/
theorem witness_TerminatingInRun1D :
    (Instr.wt11, Color.white, 11, 5) ∈ termCodes ∧ (Instr.bt10, Color.black, 10, 7) ∈ termCodes ∧
    (line1D []).phase = .run1D ∧ (line1D []).color = .white ∧ FitsCur 5 (line1D []) ∧
    FitsAcc ((line1D []).rs + ((line1D []).racc + 11)) (line1D []) ∧ RoomForRun (line1D []) ∧
    nextHas (exec .wt11 (line1D [])) (fun t => t.err == .runOverflow && t.errAcc == 11) = true ∧
    nextHas (exec .wt10 (line1D [])) (fun t => t.kind == .line && t.phase == .done) = true ∧
    nextHas (exec .wt9 (line1D [])) (fun t => t.phase == .run1D && t.runs == [9]) = true := by decide

theorem witness_TerminatingInHRun1 :
    let s := { line2D [] with phase := .hrun1, a0 := 5, rs := 2, runs := [2], color := .black }
    (Instr.bt3, Color.black, 3, 2) ∈ termCodes ∧ s.phase = .hrun1 ∧ s.color = .black ∧ FitsCur 2 s ∧
      FitsAcc (s.racc + 3) s ∧ FitsAcc ((max s.a0 0).toNat + (s.racc + 3)) s ∧ (s.rs : Int) ≤ max s.a0 0 ∧
      RoomForRun s ∧ nextHas (exec .bt3 s) (fun t => t.runs == [2, 6] && t.rs == 8) = true ∧
      nextHas (exec .bt4 s) (fun t => t.err == .runOverflow && t.errAcc == 9) = true := by decide

theorem witness_TerminatingInHRun2 :
    (Instr.bt5, Color.black, 5, 4) ∈ termCodes ∧ (afterFirst []).phase = .hrun2 ∧
    (afterFirst []).color = Color.black.flip ∧ FitsCur 4 (afterFirst []) ∧
    FitsAcc ((afterFirst []).rs + ((afterFirst []).racc + 5)) (afterFirst []) ∧ RoomForRun (afterFirst []) ∧
    nextHas (exec .bt5 (afterFirst [])) (fun t => t.kind == .line && t.phase == .done) = true ∧
    nextHas (exec .bt6 (afterFirst [])) (fun t => t.err == .runOverflow && t.errAcc == 9) = true ∧
    nextHas (exec .bt4 (afterFirst [])) (fun t => t.phase == .mode2D && t.a0 == 7) = true := by decide

theorem witness_MakeupAccumulates :
    (Instr.wx2560, Color.white, 2560, 12) ∈ makeupCodes ∧ (Instr.bm64, Color.black, 64, 10) ∈ makeupCodes ∧
    ((line1D []).phase = .run1D ∧ (line1D []).color = .white) ∧
    ((afterFirst []).phase = .hrun2 ∧ (afterFirst []).color = Color.black.flip) ∧ FitsCur 12 (line1D []) ∧
    FitsAcc ((line1D []).racc + 2560) (line1D []) := by decide

theorem witness_EolEndsCommand :
    (Instr.weol, Color.white) ∈ runEolCodes ∧ (Instr.beol, Color.black) ∈ runEolCodes ∧
    (line1D []).phase = .run1D ∧ (line1D []).color = .white ∧ (afterFirst []).color = Color.black.flip ∧
    FitsCur 12 (line1D []) ∧ (line2D []).phase = .mode2D ∧ FitsCur 12 (line2D []) := by decide

/-- Pass to 5, Pass to the line's end with a pending run, and Pass to the line's end with none pending. -/
theorem witness_PassMovesA0 :
    (line2D []).phase = .mode2D ∧ FitsCur 4 (line2D []) ∧ FitsAcc (b2 (line2D [])) (line2D []) ∧
    b2 { line2D [] with a0 := 2, rs := 2, runs := [2], color := .black } = 8 ∧
    nextHas (exec .p { line2D [] with a0 := 2, rs := 2, runs := [2], color := .black })
      (fun t => t.kind == .line && resultRuns t == [2, 6]) = true ∧
    nextHas (exec .p { line2D [] with refLine := [8], rs := 8, runs := [8] })
      (fun t => resultRuns t == [8]) = true := by decide

theorem witness_HorizontalBegins : (line2D []).phase = .mode2D ∧ FitsCur 3 (line2D []) := by decide

/-- The four ends of a vertical code. -/
theorem witness_VerticalModes :
    (Instr.vl3, (-3 : Int), 7) ∈ verticalCodes ∧ (Instr.vr3, (3 : Int), 7) ∈ verticalCodes ∧
    (line2D []).phase = .mode2D ∧ ((line2D []).rs : Int) ≤ max (line2D []).a0 0 ∧ FitsCur 7 (line2D []) ∧
    FitsAcc ((b1 (line2D []) : Int) + 3).toNat (line2D []) ∧ RoomForRun (line2D []) ∧
    nextHas (exec .vl3 (line2D [])) (fun t => t.err == .invalidModeCode) = true ∧
    nextHas (exec .vr3 { line2D [] with refLine := [6, 2] }) (fun t => t.err == .runOverflow) = true ∧
    nextHas (exec .vr2 { line2D [] with refLine := [6, 2] }) (fun t => t.kind == .line && t.phase == .done)
      = true ∧
    nextHas (exec .vr1 { line2D [] with refLine := [6, 2] }) (fun t => t.phase == .mode2D) = true := by decide

theorem witness_ExtensionRefused : (line2D []).phase = .mode2D := rfl

theorem witness_OutsideItsTableRefused :
    currentTable (line1D []) ≠ some (Instr.table .bt3) ∧ currentTable finished ≠ some (Instr.table .v0) := by
  decide

/-- A cursor of 2 bits: one code word of each class whose cursor does not fit. -/
theorem witness_ParametersBoundEveryValue_cursor :
    let p := { Config.resetParams with curBits := 2 }
    let s := { line1D [] with params := p }
    let m := { line2D [] with params := p, cur := 3 }
    currentTable s = some (Instr.table .wm64) ∧ ¬ FitsCur (encode .wm64).length s ∧
      ¬ FitsCur (encode .wt3).length s ∧ ¬ FitsCur (encode .weol).length s ∧
      currentTable m = some (Instr.table .v0) ∧ ¬ FitsCur (encode .v0).length m ∧
      ¬ FitsCur (encode .p).length m ∧ ¬ FitsCur (encode .h).length m ∧ ¬ FitsCur (encode .eol).length m ∧
      max m.a0 0 ≤ (b1 m : Int) + 0 ∧
      refusedAs (exec .h m) .cursorExceeded = true ∧ refusedAs (exec .p m) .cursorExceeded = true ∧
      refusedAs (exec .v0 m) .cursorExceeded = true ∧ refusedAs (exec .eol m) .cursorExceeded = true ∧
      refusedAs (exec .weol s) .cursorExceeded = true := by decide

/-- An accumulator of 1 bit: makeup, terminating in each run phase, Pass and vertical. -/
theorem witness_ParametersBoundEveryValue_position :
    let p := { Config.resetParams with accBits := 1 }
    let s := { line1D [] with params := p }
    let m := { line2D [] with params := p }
    let h1 := { m with phase := .hrun1 }
    let h2 := { afterFirst [] with params := p }
    FitsCur 5 s ∧ ¬ FitsAcc (s.racc + 64) s ∧ ¬ FitsAcc (s.rs + (s.racc + 3)) s ∧
      ¬ FitsAcc ((max h1.a0 0).toNat + (h1.racc + 3)) h1 ∧ ¬ FitsAcc (h2.rs + (h2.racc + 2)) h2 ∧
      ¬ FitsAcc (b2 m) m ∧ ¬ FitsAcc ((b1 m : Int) + 0).toNat m ∧
      refusedAs (exec .wt3 h1) .positionExceeded = true ∧ refusedAs (exec .bt2 h2) .positionExceeded = true ∧
      refusedAs (exec .p m) .positionExceeded = true ∧ refusedAs (exec .v0 m) .positionExceeded = true := by
  decide

/-- An output buffer of no run: terminating in each run phase, Pass to the line's end, and vertical. -/
theorem witness_ParametersBoundEveryValue_capacity :
    let p := { Config.resetParams with maxRuns := 0 }
    let s := { line1D [] with params := p }
    let m := { line2D [] with params := p }
    let h1 := { m with phase := .hrun1 }
    let h2 := { m with phase := .hrun2 }
    let e := { m with refLine := [8] }
    ¬ RoomForRun s ∧ ¬ RoomForRun m ∧ FitsAcc (s.rs + (s.racc + 10)) s ∧ s.rs + (s.racc + 10) ≤ s.width ∧
      (max h1.a0 0).toNat + (h1.racc + 3) ≤ h1.width ∧ h1.rs ≤ (max h1.a0 0).toNat ∧
      h2.rs + (h2.racc + 8) ≤ h2.width ∧ b2 e = e.width ∧ e.rs < e.width ∧ FitsAcc (b2 e) e ∧
      (m.rs : Int) ≤ max m.a0 0 ∧ (b1 m : Int) + 0 ≤ (m.width : Int) ∧
      refusedAs (exec .wt10 s) .runBufferFull = true ∧ refusedAs (exec .wt3 h1) .runBufferFull = true ∧
      refusedAs (exec .bt8 h2) .runBufferFull = true ∧ refusedAs (exec .p e) .runBufferFull = true ∧
      refusedAs (exec .v0 m) .runBufferFull = true := by decide

theorem witness_CodeWordFrame :
    nextHas (exec .wm64 (line1D [])) (fun t => t.phase == .run1D) = true ∧
    nextHas (exec .wt10 (line1D [])) (fun t => t.phase == .done && t.kind == .line) = true ∧
    nextHas (exec .bt2 (afterFirst [])) (fun t => t.color == .white) = true ∧
    nextHas (exec .wt3 { line2D [] with phase := .hrun1 }) (fun t => t.a0 == -1) = true ∧
    nextHas (exec .p (line2D [])) (fun t => t.racc == 0) = true ∧
    nextHas (exec .ext (line2D [])) (fun t => t.kind == .error) = true := by decide

theorem witness_CursorMovesByWidth :
    nextHas (exec .wt3 (line1D [])) (fun t => t.cur == 4) = true ∧
    nextHas (exec .vl3 (line2D [])) (fun t => t.cur == 0 && t.err == .invalidModeCode) = true := by decide

theorem witness_ErrorsArePrecise :
    (line2D []).busy = true ∧
    nextHas (engineStep (line2D [])) (fun t => t.phase == .done && t.kind == .error) = true ∧
    nextHas (engineStep (line1D [0, 1, 0, 0, 0])) (fun t => t.kind == .error && t.err == .runOverflow)
      = true := by decide

theorem witness_EngineLeavesInputs :
    nextHas (engineStep (line1D [1, 0, 0, 0])) (fun t => t.runs == [3]) = true := by decide

theorem witness_ParametersFixed :
    nextHas (step (queued finished [.reset])) (fun t => t.params == Config.resetParams) = true := by decide

theorem witness_LineSumsToWidth :
    Inv (line1D [0, 0, 1, 1, 1]) ∧ (line1D [0, 0, 1, 1, 1]).busy = true ∧
    nextHas (engineStep (line1D [0, 0, 1, 1, 1])) (fun t => t.phase == .done && t.kind == .line) = true :=
  ⟨inv_full_line, by decide⟩

theorem witness_StepConsumesOrEnds :
    Inv (line2D [1]) ∧ (line2D [1]).busy = true ∧
    nextHas (engineStep (line2D [1])) (fun t => t.cur == 1) = true := ⟨inv_line2D, by decide⟩

theorem witness_CommandEnds :
    Inv (line2D [1, 1]) ∧ (line2D [1, 1]).busy = true ∧ (line2D [1, 1]).hostQueue = [] ∧
    nextHas (Sys2Proof.core.run 3 (line2D [1, 1])) (fun t => t.phase == .done) = true :=
  ⟨inv_line2D_two, by decide⟩

theorem witness_SameInputsSameAnswer :
    SameInputs (readyFor 2 8 [8]) { readyFor 2 8 [8] with racc := 7, runs := [9], phase := .done } ∧
    (readyFor 2 8 [8]).phase = .idle := by decide

theorem witness_RunIsMakeupsPlusTerminating :
    (∀ m ∈ [(Instr.wm64, 64, 5), (Instr.wm64, 64, 5)], (m.1, Color.white, m.2.1, m.2.2) ∈ makeupCodes) ∧
    (Instr.wt5, Color.white, 5, 4) ∈ termCodes ∧
    let s := { line1D [] with width := 200 }
    s.phase = .run1D ∧ s.color = .white ∧ s.racc = 0 ∧ FitsCur 14 s ∧ FitsAcc (s.rs + 133) s ∧
      RoomForRun s ∧ s.rs + 133 < s.width ∧
      nextHas (execAll [.wm64, .wm64, .wt5] s) (fun t => t.runs == [133] && t.cur == 14) = true := by decide

theorem witness_CanonicalRunDecodes :
    let s := line1D [0, 0, 1, 1, 1]
    s.phase = .run1D ∧ s.color = .white ∧ s.racc = 0 ∧ s.hostQueue = [] ∧
      remaining s = encodeAll (expandRun .white 10) ++ [] ∧
      FitsCur (encodeAll (expandRun .white 10)).length s ∧ FitsAcc (s.rs + 10) s ∧ RoomForRun s ∧
      s.rs + 10 ≤ s.width ∧
      nextHas (Sys2Proof.core.run 1 s) (fun t => t.kind == .line && t.phase == .done) = true ∧
      expandRun .white 0 = [.wt0] := by decide

theorem witness_ReferencePixels :
    4 < ([2, 3, 3].take (1 + 1)).sum ∧ (∀ j' < 1, ([2, 3, 3].take (j' + 1)).sum ≤ 4) ∧
    5 < ([2, 0, 6].take (2 + 1)).sum ∧ (∀ j' < 2, ([2, 0, 6].take (j' + 1)).sum ≤ 5) ∧
    7 < [2, 3, 3].sum ∧ (pixels [2, 3, 3])[7]? = some .white ∧ (pixels [2, 3, 3])[2]? = some .black := by decide

theorem witness_B1IsLeast :
    2 ∈ changingElements (line2D []).refLine (line2D []).width ∧ (line2D []).a0 < (2 : Int) ∧
    refpx (line2D []).refLine 2 ≠ (line2D []).color ∧
    b1 { line2D [] with a0 := 5 } = 8 := by decide

theorem witness_B2FollowsB1 :
    5 ∈ changingElements (line2D []).refLine (line2D []).width ∧ b1 (line2D []) < 5 ∧
    b2 { line2D [] with a0 := 5 } = 8 := by decide

end Sys2Proof.Tests
end

section
/-! PROOFS. What no engine step changes, and that no step of the machine changes the parameters
(spec/00_scope.md R8). -/

namespace Sys2Proof.Machine

/-! ## The frame of an engine step -/

/-- What no code word and no engine step changes: W, CMODE and REF of the command, its inputs, and the model's own
fields of the host. -/
structure EngineFrame (s t : State) : Prop where
  width : t.width = s.width
  cmode : t.cmode = s.cmode
  refLine : t.refLine = s.refLine
  inCur : t.inCur = s.inCur
  inWidth : t.inWidth = s.inWidth
  inMode : t.inMode = s.inMode
  inRefCount : t.inRefCount = s.inRefCount
  inWritten : t.inWritten = s.inWritten
  stream : t.mem.stream = s.mem.stream
  inRef : t.mem.inRef = s.mem.inRef
  params : t.params = s.params
  hostQueue : t.hostQueue = s.hostQueue
  freeIndex : t.freeIndex = s.freeIndex
  readData : t.readData = s.readData
  doneSeen : t.doneSeen = s.doneSeen

namespace EngineFrame

variable {s t u : State}

theorem refl (s : State) : EngineFrame s s := by constructor <;> rfl

theorem trans (h : EngineFrame s t) (k : EngineFrame t u) : EngineFrame s u where
  width := k.width.trans h.width
  cmode := k.cmode.trans h.cmode
  refLine := k.refLine.trans h.refLine
  inCur := k.inCur.trans h.inCur
  inWidth := k.inWidth.trans h.inWidth
  inMode := k.inMode.trans h.inMode
  inRefCount := k.inRefCount.trans h.inRefCount
  inWritten := k.inWritten.trans h.inWritten
  stream := k.stream.trans h.stream
  inRef := k.inRef.trans h.inRef
  params := k.params.trans h.params
  hostQueue := k.hostQueue.trans h.hostQueue
  freeIndex := k.freeIndex.trans h.freeIndex
  readData := k.readData.trans h.readData
  doneSeen := k.doneSeen.trans h.doneSeen

/-- The registers a command works on may take any values. -/
theorem work (s : State) (cur : Nat) (phase : Phase) (color : Color) (a0 : Int) (rs racc : Nat)
    (runs : List Nat) :
    EngineFrame s { s with cur := cur, phase := phase, color := color, a0 := a0, rs := rs, racc := racc,
                           runs := runs } := by
  constructor <;> rfl

theorem finish (k : Kind) (s : State) : EngineFrame s (s.finish k) := by constructor <;> rfl

theorem raise (e : ErrInfo) (s : State) : EngineFrame s (s.raise e) := by constructor <;> rfl

end EngineFrame

variable {s t : State}

theorem lineCheck2D_frame (h : lineCheck2D s = .next t) : EngineFrame s t := by
  obtain ⟨-, rfl⟩ | ⟨-, -, -, rfl⟩ | ⟨-, -, rfl⟩ := lineCheck2D_eq_next.1 h
  · exact .refl _
  · exact (EngineFrame.work s ..).trans (.finish _ _)
  · exact .finish _ _

theorem runComplete1D_frame {L : Nat} (h : runComplete1D L s = .next t) : EngineFrame s t := by
  obtain ⟨-, ⟨-, rfl⟩ | ⟨-, -, rfl⟩⟩ := runComplete1D_eq_next.1 h
  · exact .raise _ _
  · dsimp only
    split
    · exact (EngineFrame.work s ..).trans (.finish _ _)
    · exact .work s ..

theorem runCompleteH1_frame {L : Nat} (h : runCompleteH1 L s = .next t) : EngineFrame s t := by
  obtain ⟨-, ⟨-, rfl⟩ | ⟨-, -, -, rfl⟩⟩ := runCompleteH1_eq_next.1 h
  · exact .raise _ _
  · exact .work s ..

theorem runCompleteH2_frame {L : Nat} (h : runCompleteH2 L s = .next t) : EngineFrame s t := by
  obtain ⟨-, ⟨-, rfl⟩ | ⟨-, -, hl⟩⟩ := runCompleteH2_eq_next.1 h
  · exact .raise _ _
  · exact (EngineFrame.work s ..).trans (lineCheck2D_frame hl)

theorem runComplete_frame {L : Nat} (h : runComplete L s = .next t) : EngineFrame s t := by
  obtain ⟨-, h⟩ | ⟨-, h⟩ | ⟨-, h⟩ := runComplete_eq_next.1 h
  · exact runComplete1D_frame h
  · exact runCompleteH1_frame h
  · exact runCompleteH2_frame h

theorem verticalMode_frame {k : Int} {w : Nat} (h : verticalMode k w s = .next t) : EngineFrame s t := by
  obtain ⟨-, ⟨-, rfl⟩ | ⟨-, -, -, ⟨-, rfl⟩ | ⟨-, -, -, hl⟩⟩⟩ := verticalMode_eq_next.1 h
  · exact .raise _ _
  · exact (EngineFrame.work s ..).trans (.raise _ _)
  · exact (EngineFrame.work s ..).trans (lineCheck2D_frame hl)

theorem exec_frame {i : Instr} (h : exec i s = .next t) : EngineFrame s t := by
  rw [exec_eq_op] at h
  cases hop : opOf i <;> rw [hop] at h
  case term c n w =>
    obtain ⟨-, -, -, hr⟩ := runTerm_eq_next.1 h
    exact (EngineFrame.work s ..).trans (runComplete_frame hr)
  case makeup c v w =>
    obtain ⟨-, -, -, rfl⟩ := runMakeup_eq_next.1 h
    exact .work s ..
  case runEol c =>
    obtain ⟨-, -, rfl⟩ := runEol_eq_next.1 h
    exact (EngineFrame.work s ..).trans (.finish _ _)
  case pass =>
    obtain ⟨-, -, -, hl⟩ := passMode_eq_next.1 h
    exact (EngineFrame.work s ..).trans (lineCheck2D_frame hl)
  case horizontal =>
    obtain ⟨-, -, rfl⟩ := horizontalMode_eq_next.1 h
    exact .work s ..
  case vertical k w => exact verticalMode_frame h
  case extension =>
    obtain ⟨-, rfl⟩ := extensionMode_eq_next.1 h
    exact .raise _ _
  case modeEol =>
    obtain ⟨-, -, rfl⟩ := modeEol_eq_next.1 h
    exact (EngineFrame.work s ..).trans (.finish _ _)

/-- R202: what an engine step that is answered did. -/
theorem engineStep_eq_next : engineStep s = .next t ↔
    (fetch s = .waiting ∧ t = s) ∨ (∃ i, fetch s = .instr i ∧ exec i s = .next t) ∨
      ∃ e, fetch s = .error e ∧ t = s.raise e := by
  unfold engineStep
  cases fetch s <;> simp [@eq_comm _ t]

theorem engineStep_frame (h : engineStep s = .next t) : EngineFrame s t := by
  obtain ⟨-, rfl⟩ | ⟨i, -, hx⟩ | ⟨e, -, rfl⟩ := engineStep_eq_next.1 h
  · exact .refl _
  · exact exec_frame hx
  · exact .raise _ _

/-! ## Host actions and steps -/

theorem strobeStart_params (h : strobeStart s = .next t) : t.params = s.params := by
  obtain ⟨-, ⟨-, rfl⟩ | ⟨-, h2⟩ | ⟨-, h2⟩⟩ := strobeStart_eq_next.1 h
  · rfl
  all_goals
    obtain ⟨-, ref, -, -, rfl⟩ := start2D_eq_next.1 h2
    rfl

theorem hostWrite_params {r : HostReg} {v : Nat} (h : hostWrite r v s = .next t) :
    t.params = s.params := by
  obtain ⟨-, ⟨-, -, rfl⟩ | ⟨-, rfl⟩ | ⟨-, -, rfl⟩ | ⟨-, -, rfl⟩ | ⟨i, -, -, rfl⟩⟩ :=
    hostWrite_eq_next.1 h <;> rfl

theorem hostAct_params {a : HostAction} (h : hostAct a s = .next t) : t.params = s.params := by
  cases a with
  | yield => cases h; rfl
  | write r v => exact hostWrite_params h
  | read r =>
    obtain ⟨-, -, rfl⟩ := hostRead_eq_next.1 h
    rfl
  | start => exact strobeStart_params h
  | ack =>
    obtain ⟨-, rfl⟩ := strobeAck_eq_next.1 h
    rfl
  | abort => cases h; rfl
  | reset => cases h; rfl
  | loadStream bytes n =>
    obtain ⟨-, rfl⟩ := loadStream_eq_next.1 h
    rfl

theorem step_of_empty_queue (hq : s.hostQueue = []) : step s = engineStep s := by
  simp only [step, hq]

theorem step_of_yield {rest : List HostAction} (hq : s.hostQueue = .yield :: rest) :
    step s = engineStep s.popAction := by
  simp only [step, hq, if_true]

theorem step_of_hostAction {a : HostAction} {rest : List HostAction} (hq : s.hostQueue = a :: rest)
    (ha : a ≠ .yield) : step s = hostAct a s.popAction := by
  simp only [step, hq, if_neg ha]

/-- Settles O44: an engine step by its frame, a host action by its own effect. -/
theorem parametersFixed : Obligations.ParametersFixed := by
  intro s t h
  cases hq : s.hostQueue with
  | nil =>
    rw [step_of_empty_queue hq] at h
    exact (engineStep_frame h).params
  | cons a rest =>
    by_cases ha : a = .yield
    · subst ha
      rw [step_of_yield hq] at h
      exact (engineStep_frame h).params
    · rw [step_of_hostAction hq ha] at h
      exact (hostAct_params h).trans (popAction_params s)

end Sys2Proof.Machine
end

section
/-! PROOFS. A START whose command is not admitted is refused (spec/00_scope.md R9, spec/10_state.md R33). -/

namespace Sys2Proof.Machine

variable {s t : State}

theorem busy_eq_false_iff : s.busy = false ↔ s.phase = .idle ∨ s.phase = .done := by
  unfold State.busy
  cases s.phase <;> simp [Phase.busy]

theorem refWellFormed_iff {ref : List Nat} {width : Nat} :
    refWellFormed ref width = true ↔ ref ≠ [] ∧ ref.sum = width := by
  simp [refWellFormed]

theorem start2D_ne_fault {m : CodingMode} {x : Fault} : start2D m s ≠ .fault x := by
  unfold start2D
  split
  · split
    · split <;> simp
    · simp
  · simp

theorem strobeStart_ne_fault {x : Fault} : strobeStart s ≠ .fault x := by
  unfold strobeStart
  split
  · simp
  · split
    · simp
    · simp
    · exact start2D_ne_fault
    · exact start2D_ne_fault

theorem strobeStart_refused_of_not_next (h : ∀ t, strobeStart s ≠ .next t) :
    ∃ r, strobeStart s = .refused r := by
  cases hr : strobeStart s with
  | next t => exact absurd hr (h t)
  | fault x => exact absurd hr strobeStart_ne_fault
  | refused r => exact ⟨r, rfl⟩

theorem strobeStart_mode_ne_reserved (h : strobeStart s = .next t) : s.inMode ≠ 3#2 := by
  obtain ⟨-, ⟨hm, -⟩ | ⟨hm, -⟩ | ⟨hm, -⟩⟩ := strobeStart_eq_next.1 h <;> simp [hm]

/-- R9, R31, R273: the reference line of an answered 2D START is written and well formed. -/
theorem start2D_reference {m : CodingMode} (h : start2D m s = .next t) :
    s.inWritten.refCount = true ∧
      ∃ ref, readCells s.inRefCount 0 s.mem.inRef = some ref ∧ ref ≠ [] ∧ ref.sum = s.inWidth := by
  obtain ⟨hcount, ref, href, hwf, -⟩ := start2D_eq_next.1 h
  exact ⟨hcount, ref, href, refWellFormed_iff.1 hwf⟩

theorem strobeStart_reference (h : strobeStart s = .next t) (h0 : s.inMode ≠ 0#2) :
    s.inWritten.refCount = true ∧
      ∃ ref, readCells s.inRefCount 0 s.mem.inRef = some ref ∧ ref ≠ [] ∧ ref.sum = s.inWidth := by
  obtain ⟨-, ⟨hm, -⟩ | ⟨-, h2⟩ | ⟨-, h2⟩⟩ := strobeStart_eq_next.1 h
  · exact absurd hm h0
  · exact start2D_reference h2
  · exact start2D_reference h2

/-- Settles O18: an answered START meets every condition of `startRefusal_eq_none`, its mode is not reserved, and in
a 2D mode its reference line is well formed; each disjunct denies one of these. -/
theorem startNotAdmittedIsRefused : Obligations.StartNotAdmittedIsRefused := by
  intro s rest hq hbad
  rw [step_of_hostAction hq (by decide)]
  refine strobeStart_refused_of_not_next fun t ht => ?_
  obtain ⟨hphase, ⟨hcur, hwidth, hmode⟩, ⟨hw1, hw2, hw3⟩, hpos, hlen, -⟩ :=
    startRefusal_eq_none.1 (strobeStart_eq_next.1 ht).1
  have hbusy : s.busy = false := busy_eq_false_iff.2 hphase
  simp only [popAction_inWritten, popAction_inWidth, popAction_params, popAction_inCur,
    popAction_mem] at hcur hwidth hmode hw1 hw2 hw3 hpos hlen
  rcases hbad with h | h | h | h | h | h | h | h | h | h | ⟨h0, h⟩
  · simp [hbusy] at h
  · omega
  · omega
  · omega
  · omega
  · omega
  · exact strobeStart_mode_ne_reserved ht h
  · simp [hcur] at h
  · simp [hwidth] at h
  · simp [hmode] at h
  · obtain ⟨hcount, ref, href, hne, hsum⟩ := strobeStart_reference ht h0
    rcases h with h | h
    · exact absurd (hcount.symm.trans h) (by decide)
    · exact (h ref href).elim hne fun h => h hsum

end Sys2Proof.Machine
end

section
/-! PROOFS. A value beyond a parameter is refused (spec/00_scope.md R9): the refusals of each shared operation, then of
the listed code words. -/

namespace Sys2Proof.Machine

open Sys2Proof.Safety

variable {s : State}

/-! ## The refusals of the shared operations -/

theorem consume_of_not_fits {n : Nat} (h : ¬ FitsCur n s) : consume n s = .refused .cursorExceeded :=
  if_neg h

theorem checkAcc_of_not_fits {v : Nat} (h : ¬ FitsAcc v s) : checkAcc v s = .refused .positionExceeded :=
  if_neg h

theorem emit_of_full {n : Nat} (h : ¬ RoomForRun s) : emit n s = .refused .runBufferFull := if_neg h

theorem emitTo_of_full {a : Nat} (ha : s.rs ≤ a) (h : ¬ RoomForRun s) :
    emitTo a s = .refused .runBufferFull := emitTo_eq_refused.2 (.inr ⟨ha, h, rfl⟩)

theorem currentTable_eq_mode : currentTable s = some .mode ↔ s.phase = .mode2D := by
  unfold currentTable runColor
  cases s.phase <;> cases s.color <;> simp [Color.flip, Table.ofColor]

theorem currentTable_eq_ofColor {c : Color} :
    currentTable s = some (Table.ofColor c) ↔ runColor s = some c := by
  unfold currentTable runColor
  cases s.phase <;> cases s.color <;> cases c <;> simp [Color.flip, Table.ofColor]

/-- The position at which the run in progress begins (R205 to R207). -/
def runStart (s : State) : Nat := if s.phase = .hrun1 then (max s.a0 0).toNat else s.rs

theorem runStart_of_hrun1 (hp : s.phase = .hrun1) : runStart s = pos0 s := by
  rw [runStart, if_pos hp, pos0]
  omega

theorem runStart_of_ne_hrun1 (hp : s.phase ≠ .hrun1) : runStart s = s.rs := if_neg hp

theorem runPhase_of_runColor {c : Color} (h : runColor s = some c) :
    s.phase = .run1D ∨ s.phase = .hrun1 ∨ s.phase = .hrun2 := by
  unfold runColor at h
  cases hp : s.phase <;> simp [hp] at h ⊢

/-- R9: a run that would end past the position registers' range. -/
theorem runComplete_of_not_fits {L : Nat} {c : Color} (hc : runColor s = some c)
    (h : ¬ FitsAcc (runStart s + L) s) : runComplete L s = .refused .positionExceeded := by
  obtain hp | hp | hp := runPhase_of_runColor hc
  · rw [runStart_of_ne_hrun1 (by simp [hp])] at h
    simp only [runComplete, hp, runComplete1D, checkAcc_of_not_fits h, andThen_refused]
  · rw [runStart_of_hrun1 hp] at h
    simp only [runComplete, hp, runCompleteH1, checkAcc_of_not_fits h, andThen_refused]
  · rw [runStart_of_ne_hrun1 (by simp [hp])] at h
    simp only [runComplete, hp, runCompleteH2, checkAcc_of_not_fits h, andThen_refused]

/-- R204: a run within the line is refused at a full buffer. -/
theorem runComplete_of_full {L : Nat} {c : Color} (hc : runColor s = some c)
    (hf : FitsAcc (runStart s + L) s) (hw : runStart s + L ≤ s.width) (hrs : s.rs ≤ runStart s)
    (hfull : ¬ RoomForRun s) : runComplete L s = .refused .runBufferFull := by
  obtain hp | hp | hp := runPhase_of_runColor hc
  · rw [runStart_of_ne_hrun1 (by simp [hp])] at hf hw
    simp only [runComplete, hp, runComplete1D, checkAcc_of_fits hf, andThen_next, hw.not_gt, if_false,
      emit_of_full hfull, andThen_refused]
  · rw [runStart_of_hrun1 hp] at hf hw hrs
    simp only [runComplete, hp, runCompleteH1, checkAcc_of_fits hf, andThen_next, hw.not_gt, if_false,
      emitTo_of_full (Nat.le_add_right_of_le hrs) hfull, andThen_refused]
  · rw [runStart_of_ne_hrun1 (by simp [hp])] at hf hw
    simp only [runComplete, hp, runCompleteH2, checkAcc_of_fits hf, andThen_next, hw.not_gt, if_false,
      emit_of_full hfull, andThen_refused]

theorem runTerm_of_fits {c : Color} {n w : Nat} (hc : runColor s = some c) (hw : FitsCur w s)
    (hf : FitsAcc (s.racc + n) s) :
    runTerm c n w s = runComplete (s.racc + n) { s.advance w with racc := 0 } := by
  rw [runTerm, if_pos hc, consume_of_fits hw, andThen_next, advance_racc,
    checkAcc_of_fits (s := s.advance w) hf, andThen_next, advance_racc]

/-- R9: a terminating code is refused where the accumulator or the position would not fit. -/
theorem runTerm_of_not_fits {c : Color} {n w : Nat} (hc : runColor s = some c) (hw : FitsCur w s)
    (h : ¬ FitsAcc (runStart s + (s.racc + n)) s) : runTerm c n w s = .refused .positionExceeded := by
  by_cases hf : FitsAcc (s.racc + n) s
  · rw [runTerm_of_fits hc hw hf]
    exact runComplete_of_not_fits (c := c) hc h
  · rw [runTerm, if_pos hc, consume_of_fits hw, andThen_next, advance_racc,
      checkAcc_of_not_fits (s := s.advance w) hf, andThen_refused]

theorem runTerm_of_full {c : Color} {n w : Nat} (hc : runColor s = some c) (hw : FitsCur w s)
    (hf : FitsAcc (runStart s + (s.racc + n)) s) (hle : runStart s + (s.racc + n) ≤ s.width)
    (hrs : s.rs ≤ runStart s) (hfull : ¬ RoomForRun s) : runTerm c n w s = .refused .runBufferFull := by
  have hacc : FitsAcc (s.racc + n) s := (Nat.le_add_left ..).trans_lt hf
  rw [runTerm_of_fits hc hw hacc]
  exact runComplete_of_full (c := c) hc hf hle hrs hfull

theorem runMakeup_of_not_fits {c : Color} {v w : Nat} (hc : runColor s = some c) (hw : FitsCur w s)
    (h : ¬ FitsAcc (s.racc + v) s) : runMakeup c v w s = .refused .positionExceeded := by
  rw [runMakeup, if_pos hc, consume_of_fits hw, andThen_next, advance_racc,
    checkAcc_of_not_fits (s := s.advance w) h, andThen_refused]

theorem passMode_of_not_fits {w : Nat} (hp : s.phase = .mode2D) (hw : FitsCur w s)
    (h : ¬ FitsAcc (b2 s) s) : passMode w s = .refused .positionExceeded := by
  simp only [passMode, hp, if_true, consume_of_fits hw, andThen_next,
    checkAcc_of_not_fits (s := s.advance w) h, andThen_refused]

/-- R204, R208: the pending run that ends a line is refused at a full buffer. -/
theorem lineCheck2D_of_full (ha : s.a0 = (s.width : Int)) (hrs : s.rs < s.width) (hfull : ¬ RoomForRun s) :
    lineCheck2D s = .refused .runBufferFull := by
  rw [lineCheck2D, if_pos ha, if_pos hrs, emit_of_full hfull, andThen_refused]

/-- R204, R208: the pending run that Pass ends the line with is refused at a full buffer. -/
theorem passMode_of_full {w : Nat} (hp : s.phase = .mode2D) (hw : FitsCur w s) (hf : FitsAcc (b2 s) s)
    (hb : b2 s = s.width) (hrs : s.rs < s.width) (hfull : ¬ RoomForRun s) :
    passMode w s = .refused .runBufferFull := by
  have hline : lineCheck2D { s.advance w with a0 := (b2 s : Int) } = .refused .runBufferFull :=
    lineCheck2D_of_full (congrArg Nat.cast hb) hrs hfull
  simp only [passMode, hp, if_true, consume_of_fits hw, andThen_next,
    checkAcc_of_fits (s := s.advance w) hf, hline]

section Vertical

variable {k : Int} {w : Nat} (hp : s.phase = .mode2D) (ha : max s.a0 0 ≤ (b1 s : Int) + k)
  (hw : FitsCur w s)

include hp ha hw

theorem verticalMode_of_not_fits (h : ¬ FitsAcc ((b1 s : Int) + k).toNat s) :
    verticalMode k w s = .refused .positionExceeded := by
  simp only [verticalMode, hp, if_true, not_lt.2 ha, if_false, consume_of_fits hw, andThen_next,
    checkAcc_of_not_fits (s := s.advance w) h, andThen_refused]

theorem verticalMode_of_full (hf : FitsAcc ((b1 s : Int) + k).toNat s)
    (hle : (b1 s : Int) + k ≤ (s.width : Int)) (hrs : (s.rs : Int) ≤ max s.a0 0)
    (hfull : ¬ RoomForRun s) : verticalMode k w s = .refused .runBufferFull := by
  have hrun : s.rs ≤ ((b1 s : Int) + k).toNat := by omega
  simp only [verticalMode, hp, if_true, not_lt.2 ha, if_false, consume_of_fits hw, andThen_next,
    checkAcc_of_fits (s := s.advance w) hf, advance_width, not_lt.2 hle,
    emitTo_of_full (s := s.advance w) hrun hfull, andThen_refused]

end Vertical

/-! ## The listed code words as operations -/

theorem opOf_of_mem_termCodes : ∀ x ∈ termCodes, opOf x.1 = .term x.2.1 x.2.2.1 x.2.2.2 :=
  List.forall_mem_append.2 ⟨by decide, by decide⟩

theorem opOf_of_mem_makeupCodes : ∀ x ∈ makeupCodes, opOf x.1 = .makeup x.2.1 x.2.2.1 x.2.2.2 := by decide

theorem opOf_of_mem_verticalCodes : ∀ x ∈ verticalCodes, opOf x.1 = .vertical x.2.1 x.2.2 := by decide

theorem mem_verticalCodes_of_opOf {i : Instr} {k : Int} {w : Nat} (h : opOf i = .vertical k w) :
    (i, k, w) ∈ verticalCodes := by
  cases i <;> cases h <;> decide

theorem eq_ext_of_opOf {i : Instr} (h : opOf i = .extension) : i = .ext := by
  cases i <;> cases h
  rfl

theorem runColor_of_opTable {i : Instr} {c : Color} (ht : currentTable s = some i.table)
    (hop : (opOf i).table = Table.ofColor c) : runColor s = some c :=
  currentTable_eq_ofColor.1 (by rw [ht, ← opOf_table, hop])

/-- R9: every code word that consumes its bits is refused where the cursor would not fit. -/
theorem exec_of_cursor_not_fits {i : Instr} (ht : currentTable s = some i.table) (hext : i ≠ .ext)
    (hv : ∀ k w, (i, k, w) ∈ verticalCodes → max s.a0 0 ≤ (b1 s : Int) + k)
    (h : ¬ FitsCur (encode i).length s) : exec i s = .refused .cursorExceeded := by
  rw [← opOf_width] at h
  rw [← opOf_table] at ht
  rw [exec_eq_op]
  cases hop : opOf i <;> simp only [hop, Op.width, Op.table, Op.run] at h ht ⊢
  case term c n w =>
    rw [runTerm, if_pos (currentTable_eq_ofColor.1 ht), consume_of_not_fits h, andThen_refused]
  case makeup c v w =>
    rw [runMakeup, if_pos (currentTable_eq_ofColor.1 ht), consume_of_not_fits h, andThen_refused]
  case runEol c =>
    rw [runEol, if_pos (currentTable_eq_ofColor.1 ht), consume_of_not_fits h, andThen_refused]
  case pass =>
    rw [passMode, if_pos (currentTable_eq_mode.1 ht), consume_of_not_fits h, andThen_refused]
  case horizontal =>
    rw [horizontalMode, if_pos (currentTable_eq_mode.1 ht), consume_of_not_fits h, andThen_refused]
  case vertical k w =>
    rw [verticalMode, if_pos (currentTable_eq_mode.1 ht)]
    dsimp only
    rw [if_neg (not_lt.2 (hv k w (mem_verticalCodes_of_opOf hop))), consume_of_not_fits h, andThen_refused]
  case extension => exact absurd (eq_ext_of_opOf hop) hext
  case modeEol =>
    rw [modeEol, if_pos (currentTable_eq_mode.1 ht), consume_of_not_fits h, andThen_refused]

/-- Settles O39: the cursor by the ten operations, every other bound by the refusal lemma of its class. -/
theorem parametersBoundEveryValue : Obligations.ParametersBoundEveryValue := by
  refine ⟨fun i s => exec_of_cursor_not_fits, fun i c v w hm s ht hw h => ?_,
    fun i c n w hm s ht hw => ?_, fun s hp hw => ?_, fun i k w hm s hp ha hw => ?_⟩
  · have hop := opOf_of_mem_makeupCodes _ hm
    rw [exec_eq_op, hop]
    exact runMakeup_of_not_fits (runColor_of_opTable ht (by rw [hop]; rfl)) hw h
  · have hop := opOf_of_mem_termCodes _ hm
    have hc : runColor s = some c := runColor_of_opTable ht (by rw [hop]; rfl)
    rw [exec_eq_op, hop]
    exact ⟨runTerm_of_not_fits hc hw, runTerm_of_full hc hw⟩
  · exact ⟨passMode_of_not_fits hp hw, passMode_of_full hp hw⟩
  · rw [exec_eq_op, opOf_of_mem_verticalCodes _ hm]
    exact ⟨verticalMode_of_not_fits hp ha hw, verticalMode_of_full hp ha hw⟩

end Sys2Proof.Machine
end

section
/-! PROOFS. Decoding stays within the remaining bits, and what a fetch finds (spec/40_table_walk.md R120, R121). -/

namespace Sys2Proof

theorem encode_length_pos (i : Instr) : 0 < (encode i).length := by
  cases i <;> decide

/-- R120: the code word found is of the table and stands in the bits. -/
theorem decode_code {t : Table} {bits rest : Bits} {i : Instr} (h : decode t bits = .code i rest) :
    i.table = t ∧ (encode i).length ≤ bits.length := by
  unfold decode at h
  dsimp only at h
  split at h
  · rename_i row hrow
    obtain ⟨rfl, -⟩ := Decoded.code.inj h
    have hmem := List.mem_of_find?_eq_some hrow
    have hword : row.word <+: bits.take t.maxLen :=
      by simpa using List.find?_some hrow
    rw [codeRows_word t row hmem] at hword
    exact ⟨codeRows_table t row hmem, hword.length_le.trans (List.length_take_le' _ _)⟩
  · split at h <;> cases h

namespace Machine

variable {s : State}

theorem currentTable_eq_none_iff : currentTable s = none ↔ s.busy = false := by
  unfold currentTable runColor State.busy
  cases s.phase <;> simp [Phase.busy]

theorem fetch_eq_waiting_iff : fetch s = .waiting ↔ s.busy = false := by
  rw [← currentTable_eq_none_iff]
  unfold fetch
  cases currentTable s with
  | none => simp
  | some t =>
    simp only [fetchIn, reduceCtorEq, iff_false]
    split <;> simp

/-- R121: the code word fetched is of the table in force, and the stream holds all of it. -/
theorem fetch_eq_instr {i : Instr} (h : fetch s = .instr i) :
    currentTable s = some i.table ∧ s.cur + (encode i).length ≤ s.mem.stream.length := by
  unfold fetch at h
  cases ht : currentTable s with
  | none => simp [ht] at h
  | some t =>
    simp only [ht, fetchIn] at h
    split at h <;> cases h
    rename_i hd
    obtain ⟨rfl, hlen⟩ := decode_code hd
    have hpos := encode_length_pos i
    rw [remaining, List.length_drop] at hlen
    exact ⟨rfl, by omega⟩

/-- R124: a failed walk reports one of three errors, at the cursor. -/
theorem fetch_eq_error {e : ErrInfo} (h : fetch s = .error e) :
    e = .invalidCode s.cur ∨ e = .invalidModeCode s.cur ∨ e = .unexpectedEndOfData s.cur := by
  unfold fetch at h
  cases ht : currentTable s with
  | none => simp [ht] at h
  | some t =>
    simp only [ht, fetchIn] at h
    split at h <;> cases h
    · simp
    · cases t <;> simp [invalidError]

end Machine

end Sys2Proof
end

section
/-! PROOFS. The machine's invariant, read phase by phase: what a running command keeps whatever its phase, what each
phase adds, and what the ends of a command make of it (spec/10_state.md R42). -/

namespace Sys2Proof.Machine

open Sys2Proof.Safety

/-! ## The invariant of a running command -/

/-- What every busy phase keeps: the static part, STATUS, and the ranges and sums of R42 (a) and (e). It says nothing of
PHASE, COLOR and A0. -/
structure Running (s : State) : Prop where
  static : StaticInv s
  kind : s.kind = .line
  err : s.err = .none
  doneSeen : s.doneSeen = false
  width_pos : 1 ≤ s.width
  width_le : s.width ≤ s.params.maxWidth
  width_fits : s.width < 2 ^ s.params.accBits
  cur_le : s.cur ≤ s.mem.stream.length
  stream_fits : s.mem.stream.length < 2 ^ s.params.curBits
  sum : s.runs.sum = s.rs
  runs_le : s.runs.length ≤ s.params.maxRuns
  rs_fits : s.rs < 2 ^ s.params.accBits
  racc_fits : s.racc < 2 ^ s.params.accBits
  outCur : s.outCur = 0
  outCount : s.outCount = 0
  errOffset : s.errOffset = 0
  errAcc : s.errAcc = 0
  errExp : s.errExp = 0

variable {s t : State}

theorem busy_iff_ne : s.busy = true ↔ s.phase ≠ .idle ∧ s.phase ≠ .done := by
  unfold State.busy
  cases s.phase <;> simp [Phase.busy]

theorem inv_iff_of_busy (hb : s.busy = true) :
    Inv s ↔ Running s ∧ Run1DInv s ∧ TwoDInv s ∧ ModeInv s ∧ HRun2Inv s := by
  have hd : s.phase ≠ .done := (busy_iff_ne.1 hb).2
  constructor
  · rintro ⟨hstatic, hstatus, hbusy, h1, h2, hm, hh, -⟩
    obtain ⟨hkind, herr, hseen⟩ := hstatus hd
    obtain ⟨hw1, hw2, hw3, hc1, hc2, hsum, hlen, hrs, hracc, ho1, ho2, he1, he2, he3⟩ := hbusy hb
    exact ⟨⟨hstatic, hkind, herr, hseen, hw1, hw2, hw3, hc1, hc2, hsum, hlen, hrs, hracc, ho1, ho2, he1, he2,
      he3⟩, h1, h2, hm, hh⟩
  · rintro ⟨r, h1, h2, hm, hh⟩
    exact ⟨r.static, fun _ => ⟨r.kind, r.err, r.doneSeen⟩, fun _ => ⟨r.width_pos, r.width_le, r.width_fits,
      r.cur_le, r.stream_fits, r.sum, r.runs_le, r.rs_fits, r.racc_fits, r.outCur, r.outCount, r.errOffset,
      r.errAcc, r.errExp⟩, h1, h2, hm, hh, fun h => absurd h hd⟩

theorem inv_run1D_iff (hp : s.phase = .run1D) : Inv s ↔
    Running s ∧ s.cmode = .group3_1D ∧ s.a0 = -1 ∧ s.rs < s.width ∧ WhiteIffEven s := by
  rw [inv_iff_of_busy (busy_iff_ne.2 (by simp [hp]))]
  simp [Run1DInv, TwoDInv, ModeInv, HRun2Inv, hp]

/-- What START latches for a 2D command: the mode and the reference line. -/
abbrev TwoD (s : State) : Prop :=
  s.cmode ≠ .group3_1D ∧ refWellFormed s.refLine s.width = true ∧ s.refLine.length ≤ s.params.maxRuns

theorem inv_mode2D_iff (hp : s.phase = .mode2D) : Inv s ↔
    Running s ∧ TwoD s ∧ (-1 ≤ s.a0 ∧ s.a0 < (s.width : Int)) ∧ s.racc = 0 ∧ (s.rs : Int) ≤ max s.a0 0 ∧
      WhiteIffEven s := by
  rw [inv_iff_of_busy (busy_iff_ne.2 (by simp [hp]))]
  simp [Run1DInv, TwoDInv, ModeInv, HRun2Inv, hp, and_assoc]

theorem inv_hrun1_iff (hp : s.phase = .hrun1) : Inv s ↔
    Running s ∧ TwoD s ∧ (-1 ≤ s.a0 ∧ s.a0 < (s.width : Int)) ∧ (s.rs : Int) ≤ max s.a0 0 ∧
      WhiteIffEven s := by
  rw [inv_iff_of_busy (busy_iff_ne.2 (by simp [hp]))]
  simp [Run1DInv, TwoDInv, ModeInv, HRun2Inv, hp, and_assoc]

theorem inv_hrun2_iff (hp : s.phase = .hrun2) : Inv s ↔
    Running s ∧ TwoD s ∧ (-1 ≤ s.a0 ∧ s.a0 < (s.width : Int)) ∧ max s.a0 0 ≤ (s.rs : Int) ∧
      s.rs ≤ s.width ∧ WhiteIffOdd s := by
  rw [inv_iff_of_busy (busy_iff_ne.2 (by simp [hp]))]
  simp [Run1DInv, TwoDInv, ModeInv, HRun2Inv, hp, and_assoc]

theorem inv_of_idle (hp : s.phase = .idle) (hs : StaticInv s) (hk : s.kind = .line) (he : s.err = .none)
    (hd : s.doneSeen = false) : Inv s := by
  have hb : s.busy = false := busy_eq_false_iff.2 (.inl hp)
  exact ⟨hs, fun _ => ⟨hk, he, hd⟩, by simp [BusyInv, hb], by simp [Run1DInv, hp], by simp [TwoDInv, hp],
    by simp [ModeInv, hp], by simp [HRun2Inv, hp], by simp [DoneInv, hp]⟩

theorem inv_of_done (hp : s.phase = .done) (hs : StaticInv s) (hd : DoneInv s) : Inv s := by
  have hb : s.busy = false := busy_eq_false_iff.2 (.inr hp)
  exact ⟨hs, fun h => absurd hp h, by simp [BusyInv, hb], by simp [Run1DInv, hp], by simp [TwoDInv, hp],
    by simp [ModeInv, hp], by simp [HRun2Inv, hp], hd⟩

namespace Running

/-- The registers of the work in progress may take any values within the bounds. -/
theorem work (h : Running s) {cur : Nat} {runs : List Nat} {rs racc : Nat} (phase : Phase) (color : Color)
    (a0 : Int) (hcur : cur ≤ s.mem.stream.length) (hsum : runs.sum = rs)
    (hruns : runs.length ≤ s.params.maxRuns) (hrs : rs < 2 ^ s.params.accBits)
    (hracc : racc < 2 ^ s.params.accBits) :
    Running { s with cur := cur, phase := phase, color := color, a0 := a0, rs := rs, racc := racc,
                     runs := runs } :=
  { h with cur_le := hcur, sum := hsum, runs_le := hruns, rs_fits := hrs, racc_fits := hracc }

/-- A code word is consumed. -/
theorem consumed (h : Running s) {w racc : Nat} (hcur : s.cur + w ≤ s.mem.stream.length)
    (hracc : racc < 2 ^ s.params.accBits) : Running { s.advance w with racc := racc } :=
  h.work _ _ _ hcur h.sum h.runs_le h.rs_fits hracc

/-- PHASE, COLOR and A0 are free. -/
theorem moved (h : Running s) (phase : Phase) (color : Color) (a0 : Int) :
    Running { s with phase := phase, color := color, a0 := a0 } :=
  h.work _ _ _ h.cur_le h.sum h.runs_le h.rs_fits h.racc_fits

/-- R204: a run is emitted and RS stands at its end. -/
theorem emitted (h : Running s) {n rs : Nat} (phase : Phase) (color : Color) (a0 : Int) (hroom : RoomForRun s)
    (hrs : s.rs + n = rs) (hfits : rs < 2 ^ s.params.accBits) :
    Running { s.appendRun n with phase := phase, color := color, a0 := a0, rs := rs } :=
  h.work _ _ _ h.cur_le (by simp [h.sum, hrs]) (by simpa using hroom) hfits h.racc_fits

theorem racc_zero_fits (h : Running s) : 0 < 2 ^ s.params.accBits := (Nat.zero_le _).trans_lt h.width_fits

end Running

/-! ## The ends of a command -/

/-- The values an error records are its own (R240): the cursor, or an accumulator past W. -/
def ErrInfo.RecordedBy (s : State) : ErrInfo → Prop
  | .invalidCode o => o = s.cur
  | .invalidModeCode o => o = s.cur
  | .unexpectedEndOfData o => o = s.cur
  | .runOverflow a w => w = s.width ∧ s.width < a

theorem finish_static (h : StaticInv s) (hruns : s.runs.length ≤ s.params.maxRuns) (k : Kind) :
    StaticInv (s.finish k) := by
  obtain ⟨hok, hcur, hcount, hwf, hin, hout⟩ := h
  refine ⟨hok, hcur, hcount, storeOutRuns_wf _ hwf, hin, ?_⟩
  simp only [finish_mem, storeOutRuns_outRuns, List.length_append, List.length_drop, finish_params]
  omega

/-- An error outcome (R242, R243). -/
theorem Running.inv_raise (h : Running s) {e : ErrInfo} (he : e.RecordedBy s) : Inv (s.raise e) := by
  refine inv_of_done rfl (finish_static (s := s.recordErr e) h.static h.runs_le .error) fun _ => ?_
  cases e <;>
    simpa [ErrInfo.RecordedBy, ErrInfo.code, ErrInfo.offsetOr, ErrInfo.accOr, ErrInfo.expOr, h.sum, h.errOffset,
      h.errAcc, h.errExp] using he

/-- An EOS outcome, or a LINE outcome of a line whose runs sum to W (R210, R211). -/
theorem Running.inv_finish (h : Running s) {k : Kind} (hk : k ≠ .error)
    (hline : k = .line → refWellFormed s.runs s.width = true) : Inv (s.finish k) := by
  refine inv_of_done rfl (finish_static h.static h.runs_le k) fun _ => ?_
  simpa [h.sum, h.err, h.errOffset, h.errAcc, h.errExp, hk] using hline

theorem Running.inv_finish_line (h : Running s) (hrs : s.rs = s.width) : Inv (s.finish .line) := by
  refine h.inv_finish (by decide) fun _ => refWellFormed_iff.2 ⟨fun hnil => ?_, h.sum.trans hrs⟩
  have hsum := h.sum
  have hpos := h.width_pos
  simp only [hnil, List.sum_nil] at hsum
  omega

theorem Running.inv_finish_eos (h : Running s) : Inv (s.finish .eos) :=
  h.inv_finish (by decide) nofun

end Sys2Proof.Machine
end

section
/-! PROOFS. Every step of the machine keeps its invariant (spec/10_state.md R42): the engine's operations, then the
host's actions. -/

namespace Sys2Proof.Machine

open Sys2Proof.Safety

variable {s t : State}

/-! ## The reference line's elements and A0 -/

theorem mem_changingElements_lt {ref : List Nat} {width i : Nat} (h : i ∈ changingElements ref width) :
    i < width :=
  List.mem_range.1 (List.mem_of_mem_filter h)

theorem b1_cases (s : State) : b1 s = s.width ∨ (s.a0 < (b1 s : Int) ∧ b1 s < s.width) := by
  unfold b1
  cases hf : (changingElements s.refLine s.width).find?
      (fun (i : Nat) => decide (s.a0 < (i : Int)) && (refpx s.refLine i != s.color)) with
  | none => exact .inl rfl
  | some i =>
    have hp := List.find?_some hf
    simp only [Bool.and_eq_true, decide_eq_true_eq] at hp
    exact .inr ⟨hp.1, mem_changingElements_lt (List.mem_of_find?_eq_some hf)⟩

theorem b2_cases (s : State) : b2 s = s.width ∨ (b1 s < b2 s ∧ b2 s < s.width) := by
  unfold b2
  cases hf : (changingElements s.refLine s.width).find? (fun (i : Nat) => decide (b1 s < i)) with
  | none => exact .inl rfl
  | some i =>
    exact .inr ⟨by simpa using List.find?_some hf, mem_changingElements_lt (List.mem_of_find?_eq_some hf)⟩

theorem b2_le_width (s : State) : b2 s ≤ s.width := by
  obtain h | ⟨-, h⟩ := b2_cases s <;> omega

/-- R173: Pass moves a0 to the right, within the line. -/
theorem a0_lt_b2 (h : s.a0 < (s.width : Int)) : s.a0 < (b2 s : Int) := by
  obtain h1 | ⟨h1, -⟩ := b1_cases s <;> obtain h2 | ⟨h2, -⟩ := b2_cases s <;> omega

/-! ## R42 (b): colour and parity -/

theorem whiteIffEven_flip {n : Nat} {c : Color} (h : c = .white ↔ n % 2 = 0) :
    c.flip = .white ↔ (n + 1) % 2 = 0 := by
  cases c <;> simp [Color.flip] at h ⊢ <;> omega

theorem whiteIffOdd_succ {n : Nat} {c : Color} (h : c = .white ↔ n % 2 = 0) :
    c = .white ↔ (n + 1) % 2 = 1 := by
  rw [h]; omega

theorem whiteIffEven_succ {n : Nat} {c : Color} (h : c = .white ↔ n % 2 = 1) :
    c = .white ↔ (n + 1) % 2 = 0 := by
  rw [h]; omega

/-! ## The operations -/

/-- R208: the line check, at a position where a command may stand between two mode codes. -/
theorem lineCheck2D_inv (h : lineCheck2D s = .next t) (hr : Running s) (hp : s.phase = .mode2D)
    (h2 : TwoD s) (hge : -1 ≤ s.a0) (hle : s.a0 ≤ (s.width : Int)) (hracc : s.racc = 0)
    (hrs : (s.rs : Int) ≤ max s.a0 0) (hc : WhiteIffEven s) : Inv t := by
  obtain ⟨hne, rfl⟩ | ⟨-, hlt, hroom, rfl⟩ | ⟨hw, hend, rfl⟩ := lineCheck2D_eq_next.1 h
  · exact (inv_mode2D_iff hp).2 ⟨hr, h2, ⟨hge, by omega⟩, hracc, hrs, hc⟩
  · exact (hr.emitted s.phase s.color s.a0 hroom (by omega) hr.width_fits).inv_finish_line rfl
  · exact hr.inv_finish_line (by omega)

theorem runComplete1D_inv {L : Nat} (h : runComplete1D L s = .next t) (hp : s.phase = .run1D)
    (hi : Inv s) : Inv t := by
  obtain ⟨hr, hmode, ha, hrs, hc⟩ := (inv_run1D_iff hp).1 hi
  obtain ⟨hf, ⟨hw, rfl⟩ | ⟨hw, hroom, rfl⟩⟩ := runComplete1D_eq_next.1 h
  · exact hr.inv_raise ⟨rfl, hw⟩
  · have hu := hr.emitted s.phase s.color.flip s.a0 hroom rfl hf
    dsimp only
    split
    · exact hu.inv_finish_line ‹_›
    · refine (inv_run1D_iff (by exact hp)).2 ⟨hu, hmode, ha, ?_, ?_⟩
      · simp only [appendRun_width]; omega
      · simpa [WhiteIffEven] using whiteIffEven_flip hc

theorem runCompleteH1_inv {L : Nat} (h : runCompleteH1 L s = .next t) (hp : s.phase = .hrun1)
    (hi : Inv s) : Inv t := by
  obtain ⟨hr, h2, ha, hrs, hc⟩ := (inv_hrun1_iff hp).1 hi
  obtain ⟨hf, ⟨hw, rfl⟩ | ⟨hw, hle, hroom, rfl⟩⟩ := runCompleteH1_eq_next.1 h
  · exact hr.inv_raise ⟨rfl, hw⟩
  · refine (inv_hrun2_iff rfl).2 ⟨hr.emitted .hrun2 s.color s.a0 hroom (by omega) hf, h2, ha, ?_, hw, ?_⟩
    · simp only [appendRun_a0, pos0]; omega
    · simpa [WhiteIffOdd] using whiteIffOdd_succ hc

theorem runCompleteH2_inv {L : Nat} (h : runCompleteH2 L s = .next t) (hp : s.phase = .hrun2)
    (hi : Inv s) (hracc : s.racc = 0) : Inv t := by
  obtain ⟨hr, h2, -, hrs, -, hc⟩ := (inv_hrun2_iff hp).1 hi
  obtain ⟨hf, ⟨hw, rfl⟩ | ⟨hw, hroom, hl⟩⟩ := runCompleteH2_eq_next.1 h
  · exact hr.inv_raise ⟨rfl, hw⟩
  · refine lineCheck2D_inv hl (hr.emitted _ _ _ hroom rfl hf) rfl h2 (by simp only; omega) (Int.ofNat_le.2 hw)
      hracc (le_max_left ..) ?_
    simpa [WhiteIffEven] using whiteIffEven_succ hc

theorem runComplete_inv {L : Nat} (h : runComplete L s = .next t) (hi : Inv s) (hracc : s.racc = 0) :
    Inv t := by
  obtain ⟨hp, h⟩ | ⟨hp, h⟩ | ⟨hp, h⟩ := runComplete_eq_next.1 h
  · exact runComplete1D_inv h hp hi
  · exact runCompleteH1_inv h hp hi
  · exact runCompleteH2_inv h hp hi hracc

theorem busy_of_runColor {c : Color} (hc : runColor s = some c) : s.busy = true := by
  obtain hp | hp | hp := runPhase_of_runColor hc <;> exact busy_iff_ne.2 (by simp [hp])

theorem running_of_runColor {c : Color} (hi : Inv s) (hc : runColor s = some c) : Running s :=
  ((inv_iff_of_busy (busy_of_runColor hc)).1 hi).1

/-- In a run phase the invariant depends on CUR and RACC by their ranges only. -/
theorem inv_consumed {c : Color} {w racc : Nat} (hi : Inv s) (hc : runColor s = some c)
    (hcur : s.cur + w ≤ s.mem.stream.length) (hracc : racc < 2 ^ s.params.accBits) :
    Inv { s.advance w with racc := racc } := by
  have hb := busy_of_runColor hc
  have hm : s.phase ≠ .mode2D := by
    obtain hp | hp | hp := runPhase_of_runColor hc <;> simp [hp]
  obtain ⟨hr, h1, h2, ⟨-, hmode⟩, hh⟩ := (inv_iff_of_busy hb).1 hi
  exact (inv_iff_of_busy (by exact hb)).2
    ⟨hr.consumed hcur hracc, h1, h2, ⟨fun hp => absurd hp hm, hmode⟩, hh⟩

theorem passMode_inv {w : Nat} (h : passMode w s = .next t) (hi : Inv s)
    (hcur : s.cur + w ≤ s.mem.stream.length) : Inv t := by
  obtain ⟨hp, -, hf, hl⟩ := passMode_eq_next.1 h
  obtain ⟨hr, h2, ⟨hge, hlt⟩, hracc, hrs, hc⟩ := (inv_mode2D_iff hp).1 hi
  have ha := a0_lt_b2 hlt
  refine lineCheck2D_inv hl ((hr.consumed hcur hr.racc_fits).moved s.phase s.color _) hp h2 (by simp only; omega)
    (Int.ofNat_le.2 (b2_le_width s)) hracc ?_ hc
  simp only [advance_rs]
  omega

theorem horizontalMode_inv {w : Nat} (h : horizontalMode w s = .next t) (hi : Inv s)
    (hcur : s.cur + w ≤ s.mem.stream.length) : Inv t := by
  obtain ⟨hp, -, rfl⟩ := horizontalMode_eq_next.1 h
  obtain ⟨hr, h2, ha, -, hrs, hc⟩ := (inv_mode2D_iff hp).1 hi
  exact (inv_hrun1_iff rfl).2 ⟨(hr.consumed hcur hr.racc_zero_fits).moved .hrun1 s.color s.a0, h2, ha, hrs, hc⟩

theorem verticalMode_inv {k : Int} {w : Nat} (h : verticalMode k w s = .next t) (hi : Inv s)
    (hcur : s.cur + w ≤ s.mem.stream.length) : Inv t := by
  obtain ⟨hp, hends⟩ := verticalMode_eq_next.1 h
  obtain ⟨hr, h2, -, hracc, -, hc⟩ := (inv_mode2D_iff hp).1 hi
  obtain ⟨-, rfl⟩ | ⟨hge, -, hf, hends⟩ := hends
  · exact hr.inv_raise rfl
  · have hadv : Running (s.advance w) := hr.consumed hcur hr.racc_fits
    obtain ⟨hw, rfl⟩ | ⟨hw, hle, hroom, hl⟩ := hends
    · exact hadv.inv_raise ⟨rfl, by simp only [advance_width]; omega⟩
    · refine lineCheck2D_inv hl (hadv.emitted s.phase _ _ hroom (by simp only [advance_rs]; omega) hf) hp h2
        (by simp only; omega) hw hracc (by simp only; omega) ?_
      simpa [WhiteIffEven] using whiteIffEven_flip hc

/-- A code word that the stream holds keeps the invariant. -/
theorem exec_inv {i : Instr} (h : exec i s = .next t) (hi : Inv s)
    (hcur : s.cur + (encode i).length ≤ s.mem.stream.length) : Inv t := by
  rw [exec_eq_op] at h
  rw [← opOf_width] at hcur
  cases hop : opOf i <;> simp only [hop, Op.width, Op.run] at h hcur
  case term c n w =>
    obtain ⟨hc, -, -, h⟩ := runTerm_eq_next.1 h
    exact runComplete_inv h (inv_consumed hi hc hcur (running_of_runColor hi hc).racc_zero_fits) rfl
  case makeup c v w =>
    obtain ⟨hc, -, hf, rfl⟩ := runMakeup_eq_next.1 h
    exact inv_consumed hi hc hcur hf
  case runEol c =>
    obtain ⟨hc, -, rfl⟩ := runEol_eq_next.1 h
    have hr := running_of_runColor hi hc
    exact (hr.consumed hcur hr.racc_zero_fits).inv_finish_eos
  case pass => exact passMode_inv h hi hcur
  case horizontal => exact horizontalMode_inv h hi hcur
  case vertical k w => exact verticalMode_inv h hi hcur
  case extension =>
    obtain ⟨hp, rfl⟩ := extensionMode_eq_next.1 h
    exact ((inv_mode2D_iff hp).1 hi).1.inv_raise rfl
  case modeEol =>
    obtain ⟨hp, -, rfl⟩ := modeEol_eq_next.1 h
    have hr := ((inv_mode2D_iff hp).1 hi).1
    exact Running.inv_finish_eos (hr.consumed hcur hr.racc_fits)

theorem engineStep_inv (h : engineStep s = .next t) (hi : Inv s) : Inv t := by
  obtain ⟨-, rfl⟩ | ⟨i, hf, hx⟩ | ⟨e, hf, rfl⟩ := engineStep_eq_next.1 h
  · exact hi
  · exact exec_inv hx hi (fetch_eq_instr hf).2
  · have hb : s.busy = true := by
      rw [← Bool.not_eq_false, ← fetch_eq_waiting_iff, hf]
      simp
    refine ((inv_iff_of_busy hb).1 hi).1.inv_raise ?_
    obtain rfl | rfl | rfl := fetch_eq_error hf <;> rfl

/-! ## The host's actions -/

theorem popAction_inv (h : Inv s) : Inv s.popAction := h

theorem hostWrite_inv {r : HostReg} {v : Nat} (h : hostWrite r v s = .next t) (hi : Inv s) : Inv t := by
  obtain ⟨⟨hok, hcur, hcount, hwf, hin, hout⟩, hrest⟩ := hi
  obtain ⟨-, ⟨-, hv, rfl⟩ | ⟨-, rfl⟩ | ⟨-, -, rfl⟩ | ⟨-, hv, rfl⟩ | ⟨i, -, hv, rfl⟩⟩ := hostWrite_eq_next.1 h
  · exact ⟨⟨hok, hv, hcount, hwf, hin, hout⟩, hrest⟩
  · exact ⟨⟨hok, hcur, hcount, hwf, hin, hout⟩, hrest⟩
  · exact ⟨⟨hok, hcur, hcount, hwf, hin, hout⟩, hrest⟩
  · exact ⟨⟨hok, hcur, hv, hwf, hin, hout⟩, hrest⟩
  · refine ⟨⟨hok, hcur, hcount, writeInRef_wf i v hwf, fun c hc => ?_, hout⟩, hrest⟩
    obtain rfl | hc := mem_writeCell hc
    · exact hv
    · exact hin c hc

theorem hostRead_inv {r : HostReg} (h : hostRead r s = .next t) (hi : Inv s) : Inv t := by
  obtain ⟨-, -, rfl⟩ := hostRead_eq_next.1 h
  obtain ⟨hstatic, hstatus, hrest⟩ := hi
  refine ⟨hstatic, fun hp => ?_, hrest⟩
  obtain ⟨hk, he, hd⟩ := hstatus hp
  have hnd : s.isDone = false := by simpa [State.isDone] using hp
  exact ⟨hk, he, by simp [hd, showsDone, hnd]⟩

theorem loadStream_inv {bytes : List Byte} {n : Nat} (h : loadStream bytes n s = .next t) (hi : Inv s) :
    Inv t := by
  obtain ⟨hb, rfl⟩ := loadStream_eq_next.1 h
  obtain ⟨hstatic, hstatus, -, hrest⟩ := hi
  exact ⟨hstatic, hstatus, fun hb' => absurd (hb.symm.trans hb') (by decide), hrest⟩

theorem readCells_length {cells : Cells} {n i : Nat} {vs : List Nat} (h : readCells n i cells = some vs) :
    vs.length = n := by
  induction n generalizing i vs with
  | zero => cases h; rfl
  | succ n ih =>
    unfold readCells at h
    split at h
    · cases h
      rw [List.length_cons, ih ‹_›]
    · cases h

/-- R200: the command that an admitted START begins is running. -/
theorem startCommand_running (hs : startRefusal s = none) (hi : Inv s) (m : CodingMode) (ref : List Nat) :
    Running (s.startCommand m ref) := by
  obtain ⟨-, -, ⟨hw1, hw2, hw3⟩, hcur, hlen, -⟩ := startRefusal_eq_none.1 hs
  have hfits : 0 < 2 ^ s.params.accBits := Nat.two_pow_pos _
  exact ⟨hi.1, rfl, rfl, rfl, hw1, hw2, hw3, hcur, hlen, rfl, Nat.zero_le _, hfits, hfits, rfl, rfl, rfl, rfl,
    rfl⟩

theorem start2D_inv {m : CodingMode} (h : start2D m s = .next t) (hs : startRefusal s = none) (hi : Inv s)
    (hm : m ≠ .group3_1D) : Inv t := by
  obtain ⟨-, ref, href, hwf, rfl⟩ := start2D_eq_next.1 h
  obtain ⟨-, -, ⟨hw, -⟩, -, -, hcount⟩ := startRefusal_eq_none.1 hs
  refine (inv_mode2D_iff (if_neg hm)).2 ⟨startCommand_running hs hi m ref,
    ⟨hm, hwf, (readCells_length href).trans_le hcount⟩, ⟨le_refl _, ?_⟩, rfl, by simp, by simp [WhiteIffEven]⟩
  simp only [startCommand_a0, startCommand_width]
  omega

theorem strobeStart_inv (h : strobeStart s = .next t) (hi : Inv s) : Inv t := by
  obtain ⟨hs, ⟨-, rfl⟩ | ⟨-, h2⟩ | ⟨-, h2⟩⟩ := strobeStart_eq_next.1 h
  · obtain ⟨-, -, ⟨hw, -⟩, -⟩ := startRefusal_eq_none.1 hs
    exact (inv_run1D_iff rfl).2 ⟨startCommand_running hs hi _ _, rfl, rfl, hw, by simp [WhiteIffEven]⟩
  · exact start2D_inv h2 hs hi (by decide)
  · exact start2D_inv h2 hs hi (by decide)

theorem resetNow_inv (hi : Inv s) : Inv s.resetNow := by
  obtain ⟨⟨hok, -⟩, -⟩ := hi
  exact inv_of_idle rfl ⟨hok, Nat.two_pow_pos _, Nat.zero_le _, resetNow_wf s, nofun, Nat.zero_le _⟩ rfl rfl rfl

theorem hostAct_inv {a : HostAction} (h : hostAct a s = .next t) (hi : Inv s) : Inv t := by
  cases a with
  | yield => cases h; exact hi
  | write r v => exact hostWrite_inv h hi
  | read r => exact hostRead_inv h hi
  | start => exact strobeStart_inv h hi
  | ack =>
    obtain ⟨-, rfl⟩ := strobeAck_eq_next.1 h
    exact inv_of_idle rfl hi.1 rfl rfl rfl
  | abort => cases h; exact inv_of_idle rfl hi.1 rfl rfl rfl
  | reset => cases h; exact resetNow_inv hi
  | loadStream bytes n => exact loadStream_inv h hi

/-- Settles O16: an engine step by its code word or failed walk, a host action by its own effect. -/
theorem stepKeepsInvariant : Obligations.StepKeepsInvariant := by
  intro s t hi h
  cases hq : s.hostQueue with
  | nil =>
    rw [step_of_empty_queue hq] at h
    exact engineStep_inv h hi
  | cons a rest =>
    by_cases ha : a = .yield
    · subst ha
      rw [step_of_yield hq] at h
      exact engineStep_inv h (popAction_inv hi)
    · rw [step_of_hostAction hq ha] at h
      exact hostAct_inv h (popAction_inv hi)

/-- Settles O15: after reset the engine is idle, and nothing is set. -/
theorem resetMeetsInvariant : Obligations.ResetMeetsInvariant :=
  inv_of_idle rfl (by decide) rfl rfl rfl

end Sys2Proof.Machine
end

section
/-! PROOFS. STATUS (spec/10_state.md R34), the reset values (R41), and what the host's strobes, writes and reads answer
(R32, R33, R37). -/

namespace Sys2Proof.Machine

variable {s t : State}

/-! ## STATUS -/

theorem statusWord_of_idle (hp : s.phase = .idle) : statusWord s = 0#16 := by
  have hd : s.isDone = false := by simp [State.isDone, hp]
  simp [statusWord, State.busy, Phase.busy, hp, hd]

theorem statusWord_of_busy (hb : s.busy = true) : statusWord s = 1#16 := by
  have hd : s.isDone = false := by simpa [State.isDone] using (busy_iff_ne.1 hb).2
  simp [statusWord, hb, hd]

theorem statusWord_of_done (hp : s.phase = .done) :
    statusWord s = BitVec.ofNat 16 (2 + (4 * s.kind.code + 16 * s.err.code)) := by
  simp [statusWord, State.busy, State.isDone, Phase.busy, hp]

theorem busy_iff : s.busy = true ↔
    s.phase = .run1D ∨ s.phase = .mode2D ∨ s.phase = .hrun1 ∨ s.phase = .hrun2 := by
  unfold State.busy
  cases s.phase <;> simp [Phase.busy]

/-- Settles O14: the word is 0 in IDLE, 1 while BUSY, and in DONE made of the two codes. -/
theorem statusFields : Obligations.StatusFields := by
  intro s
  rw [← busy_iff]
  obtain hb | hb := Bool.eq_false_or_eq_true s.busy
  · have hd := (busy_iff_ne.1 hb).2
    simp [statusWord_of_busy hb, hb, hd]
  · obtain hp | hp := busy_eq_false_iff.1 hb
    · simp [statusWord_of_idle hp, hb, hp]
    · rw [statusWord_of_done hp, hb, hp]
      cases s.kind <;> cases s.err <;> decide

/-! ## Reset -/

/-- Settles O12: every one of these registers has its value in `State.reset`. -/
theorem resetValues : Obligations.ResetValues :=
  ⟨rfl, statusWord_of_idle rfl, rfl, rfl, rfl, rfl, rfl, rfl, rfl, rfl, rfl, rfl, rfl, rfl, rfl, rfl⟩

/-! ## ACK and ABORT -/

variable {rest : List HostAction}

theorem popAction_of_queue {a : HostAction} (hq : s.hostQueue = a :: rest) :
    s.popAction = { s with hostQueue := rest, freeIndex := s.freeIndex + 1 } := by
  rw [State.popAction, hq, List.tail_cons]

theorem step_of_write {r : HostReg} {v : Nat} (hq : s.hostQueue = .write r v :: rest) :
    step s = hostWrite r v s.popAction := step_of_hostAction hq nofun

theorem step_of_read {r : HostReg} (hq : s.hostQueue = .read r :: rest) :
    step s = hostRead r s.popAction := step_of_hostAction hq nofun

theorem strobeAck_of_done (hp : s.phase = .done) : strobeAck s = .next s.ackDone := if_pos hp

theorem strobeAck_of_not_done (hp : s.phase ≠ .done) : strobeAck s = .refused .strobeNotAccepted := if_neg hp

/-- Settles O19: both strobes are taken off the queue and do what R215 and R216 say. -/
theorem ackAndAbort : Obligations.AckAndAbort := by
  refine ⟨fun s rest hq hp => ?_, fun s rest hq hp => ?_, fun s rest hq => ?_⟩
  · rw [step_of_hostAction hq (by decide), popAction_of_queue hq]
    exact strobeAck_of_done hp
  · rw [step_of_hostAction hq (by decide)]
    exact strobeAck_of_not_done hp
  · rw [step_of_hostAction hq (by decide), popAction_of_queue hq]
    exact ⟨_, rfl, statusWord_of_idle rfl, rfl⟩

/-! ## Run-buffer cells -/

theorem readCell_writeCell_same (i v : Nat) (cells : Cells) : readCell i (writeCell i v cells) = some v := by
  induction cells with
  | nil => simp [writeCell, readCell]
  | cons c rest ih =>
    unfold writeCell
    split
    · simp [readCell]
    · split
      · simp [readCell]
      · rename_i hne
        simp [readCell, ih, Ne.symm hne]

theorem readCell_writeCell_other {i j : Nat} (v : Nat) (cells : Cells) (h : j ≠ i) :
    readCell j (writeCell i v cells) = readCell j cells := by
  induction cells with
  | nil => simp [writeCell, readCell, h.symm]
  | cons c rest ih =>
    unfold writeCell
    split
    · simp [readCell, h.symm]
    · split
      · rename_i heq
        simp [readCell, h.symm, ← heq]
      · simp [readCell, ih]

/-! ## Writes -/

theorem hostWrite_of_busy (r : HostReg) (v : Nat) (hb : s.busy = true) :
    hostWrite r v s = .refused .writeWhileBusy := if_pos hb

/-- R37: STATUS, the result and the error registers are read-only. -/
theorem hostWrite_of_readOnly {r : HostReg} (v : Nat) (hr : r = .status ∨ r.isResult = true) (hb : s.busy = false) :
    hostWrite r v s = .refused .readOnlyRegister := by
  unfold hostWrite
  rw [hb]
  cases r <;> simp [HostReg.isResult] at hr ⊢

theorem hostWrite_inCur_of_not_fits {v : Nat} (hb : s.busy = false) (hv : 2 ^ s.params.curBits ≤ v) :
    hostWrite .inCur v s = .refused .valueTooWide := by
  simp [hostWrite, writeFitting, hb, hv]

theorem hostWrite_inMode_of_not_fits {v : Nat} (hb : s.busy = false) (hv : 4 ≤ v) :
    hostWrite .inMode v s = .refused .valueTooWide := by
  simp [hostWrite, writeFitting, hb, hv]

theorem hostWrite_inRefCount_of_not_fits {v : Nat} (hb : s.busy = false) (hv : s.params.maxRuns < v) :
    hostWrite .inRefCount v s = .refused .valueTooWide := by
  simp [hostWrite, writeFitting, hb, hv]

theorem hostWrite_inRef_of_no_cell {i : Nat} (v : Nat) (hb : s.busy = false) (hi : s.params.maxRuns ≤ i) :
    hostWrite (.inRef i) v s = .fault .noSuchCell := by
  simp [hostWrite, hb, hi.not_gt]

/-- Settles O20: refused while BUSY and to a read-only register; else the register changes and
reads back. -/
theorem hostWriteRights : Obligations.HostWriteRights := by
  refine ⟨fun s r v rest hq hb => ?_, fun s r v rest hq hr => ?_, fun s v rest hb =>
    ⟨fun hq => ⟨fun hv => ?_, fun hv => ?_⟩, fun hq => ?_, fun hq => ⟨fun hv => ?_, fun hv => ?_⟩,
      fun hq => ⟨fun hv => ?_, fun hv => ?_⟩, fun i hq => ⟨fun hi => ?_, fun hi => ?_⟩⟩⟩ <;>
    rw [step_of_write hq]
  · exact ⟨_, hostWrite_of_busy (s := s.popAction) r v hb⟩
  · obtain hb | hb := Bool.eq_false_or_eq_true s.busy
    · exact ⟨_, hostWrite_of_busy (s := s.popAction) r v hb⟩
    · exact ⟨_, hostWrite_of_readOnly (s := s.popAction) v hr hb⟩
  · rw [popAction_of_queue hq]
    exact ⟨_, hostWrite_eq_next.2 ⟨hb, .inl ⟨rfl, hv, rfl⟩⟩, rfl, rfl⟩
  · exact hostWrite_inCur_of_not_fits (s := s.popAction) hb hv
  · rw [popAction_of_queue hq]
    exact ⟨_, hostWrite_eq_next.2 ⟨hb, .inr (.inl ⟨rfl, rfl⟩)⟩, rfl, rfl⟩
  · rw [popAction_of_queue hq]
    exact ⟨_, hostWrite_eq_next.2 ⟨hb, .inr (.inr (.inl ⟨rfl, hv, rfl⟩))⟩, Nat.mod_eq_of_lt hv, rfl⟩
  · exact hostWrite_inMode_of_not_fits (s := s.popAction) hb hv
  · rw [popAction_of_queue hq]
    exact ⟨_, hostWrite_eq_next.2 ⟨hb, .inr (.inr (.inr (.inl ⟨rfl, hv, rfl⟩)))⟩, rfl, rfl⟩
  · exact hostWrite_inRefCount_of_not_fits (s := s.popAction) hb hv
  · rw [popAction_of_queue hq]
    refine ⟨_, hostWrite_eq_next.2 ⟨hb, .inr (.inr (.inr (.inr ⟨i, rfl, hi, rfl⟩)))⟩, ?_,
      fun j hj => readCell_writeCell_other v _ hj, rfl⟩
    simp only [hostValue, readCell_writeCell_same, Option.getD_some]
  · exact hostWrite_inRef_of_no_cell (s := s.popAction) v hb hi

/-! ## Reads -/

theorem hostRead_of_result_not_valid {r : HostReg} (hreg : noSuchReg r s = false) (hr : r.isResult = true)
    (h : s.phase ≠ .done ∨ s.doneSeen = false) : hostRead r s = .refused .resultNotValid := by
  have hn : ¬(s.phase = .done ∧ s.doneSeen = true) := by
    rw [← Bool.not_eq_true, ← not_and_or] at h
    exact h
  simp only [hostRead, hreg, Bool.false_eq_true, if_false, hr, hn, not_false_eq_true, and_self, if_true]

theorem hostRead_of_no_cell {r : HostReg} (hreg : noSuchReg r s = true) : hostRead r s = .fault .noSuchCell :=
  if_pos hreg

/-- OUT_RUNS[i] for i below OUT_COUNT (R35). -/
theorem hostValue_outRuns {i v : Nat} (hi : i < s.outCount) (hv : s.mem.outRuns[i]? = some v) :
    hostValue (.outRuns i) s = v := by
  simp [hostValue, hi, readOutRun, hv]

/-- Settles O21: a read is refused, answered or faults by `hostRead`'s three cases, and a value is the register's. -/
theorem hostReadRights : Obligations.HostReadRights := by
  refine ⟨fun s r rest hq hreg hr h => ?_, fun s r rest hq hreg hr => ?_, fun s i rest hq hi => ?_,
    fun s => ⟨rfl, rfl, rfl, rfl, rfl, rfl, fun i v => hostValue_outRuns⟩⟩
  · rw [step_of_read hq]
    exact hostRead_of_result_not_valid (s := s.popAction) hreg hr h
  · rw [step_of_read hq, popAction_of_queue hq]
    exact hostRead_eq_next.2 ⟨hreg, hr, rfl⟩
  · have hcell : ∀ r, r = .inRef i ∨ r = .outRuns i → noSuchReg r s.popAction = true := by
      rintro r (rfl | rfl) <;> exact decide_eq_true hi
    obtain hq | hq := hq <;> rw [step_of_read hq]
    · exact hostRead_of_no_cell (hcell _ (.inl rfl))
    · exact hostRead_of_no_cell (hcell _ (.inr rfl))

end Sys2Proof.Machine
end

section
/-! PROOFS. How a code word ends: a running command keeps the result and error registers, and only the end of the
command writes them (spec/10_state.md R35 to R37, spec/60_exceptions.md R242). How far it moves the cursor (R21, R121,
R214). -/

namespace Sys2Proof.Machine

open Sys2Proof.Safety

variable {s t u : State}

/-! ## The result and error registers -/

/-- STATUS, the result and error registers, and memory are as before. -/
structure KeepsResults (s t : State) : Prop where
  kind : t.kind = s.kind
  err : t.err = s.err
  outCur : t.outCur = s.outCur
  outCount : t.outCount = s.outCount
  errOffset : t.errOffset = s.errOffset
  errAcc : t.errAcc = s.errAcc
  errExp : t.errExp = s.errExp
  mem : t.mem = s.mem

namespace KeepsResults

theorem refl (s : State) : KeepsResults s s := by constructor <;> rfl

theorem trans (h : KeepsResults s t) (k : KeepsResults t u) : KeepsResults s u where
  kind := k.kind.trans h.kind
  err := k.err.trans h.err
  outCur := k.outCur.trans h.outCur
  outCount := k.outCount.trans h.outCount
  errOffset := k.errOffset.trans h.errOffset
  errAcc := k.errAcc.trans h.errAcc
  errExp := k.errExp.trans h.errExp
  mem := k.mem.trans h.mem

/-- The registers a command works on may take any values. -/
theorem work (s : State) (cur : Nat) (phase : Phase) (color : Color) (a0 : Int) (rs racc : Nat)
    (runs : List Nat) :
    KeepsResults s { s with cur := cur, phase := phase, color := color, a0 := a0, rs := rs, racc := racc,
                            runs := runs } := by
  constructor <;> rfl

end KeepsResults

/-- The three ways a code word leaves the command: running on, finished, or ended by an error, each from a state with
the results of before. -/
inductive Leaves (s : State) : State → Prop
  | running {t : State} (k : KeepsResults s t) (hp : t.phase ≠ .done) : Leaves s t
  | finished {u : State} (k : KeepsResults s u) (o : Kind) (ho : o ≠ .error) : Leaves s (u.finish o)
  | erred {u : State} (k : KeepsResults s u) (e : ErrInfo) : Leaves s (u.raise e)

namespace Leaves

theorem after (k : KeepsResults s u) (h : Leaves u t) : Leaves s t := by
  cases h with
  | running k' hp => exact .running (k.trans k') hp
  | finished k' o ho => exact .finished (k.trans k') o ho
  | erred k' e => exact .erred (k.trans k') e

/-- While the command runs on, nothing but its work has changed. -/
theorem keepsResults (h : Leaves s t) (hp : t.phase ≠ .done) : KeepsResults s t := by
  cases h with
  | running k _ => exact k
  | finished _ o _ => exact absurd rfl hp
  | erred _ e => exact absurd rfl hp

/-- Where the command ended without error, the error registers are as before. -/
theorem keepsErrors (h : Leaves s t) (hp : t.phase = .done) (hk : t.kind ≠ .error) :
    t.err = s.err ∧ t.errOffset = s.errOffset ∧ t.errAcc = s.errAcc ∧ t.errExp = s.errExp := by
  cases h with
  | running _ hn => exact absurd hp hn
  | finished k _ _ => exact ⟨k.err, k.errOffset, k.errAcc, k.errExp⟩
  | erred _ e => exact absurd rfl hk

/-- R210: where the command ended, its runs stand at the head of OUT_RUNS. -/
theorem outRuns (h : Leaves s t) (hp : t.phase = .done) :
    t.mem.outRuns = t.runs ++ s.mem.outRuns.drop t.runs.length := by
  cases h with
  | running _ hn => exact absurd hp hn
  | finished k o _ => simp [k.mem]
  | erred k e => simp [k.mem]

end Leaves

theorem lineCheck2D_leaves (h : lineCheck2D s = .next t) (hp : s.phase = .mode2D) : Leaves s t := by
  obtain ⟨-, rfl⟩ | ⟨-, -, -, rfl⟩ | ⟨-, -, rfl⟩ := lineCheck2D_eq_next.1 h
  · exact .running (.refl _) (by simp [hp])
  · exact .finished (.work s ..) _ (by decide)
  · exact .finished (.refl _) _ (by decide)

theorem runComplete_leaves {L : Nat} (h : runComplete L s = .next t) : Leaves s t := by
  obtain ⟨hp, h⟩ | ⟨hp, h⟩ | ⟨hp, h⟩ := runComplete_eq_next.1 h
  · obtain ⟨-, ⟨-, rfl⟩ | ⟨-, -, rfl⟩⟩ := runComplete1D_eq_next.1 h
    · exact .erred (.refl _) _
    · dsimp only
      split
      · exact .finished (.work s ..) _ (by decide)
      · exact .running (.work s ..) (by simp [hp])
  · obtain ⟨-, ⟨-, rfl⟩ | ⟨-, -, -, rfl⟩⟩ := runCompleteH1_eq_next.1 h
    · exact .erred (.refl _) _
    · exact .running (.work s ..) (by simp)
  · obtain ⟨-, ⟨-, rfl⟩ | ⟨-, -, hl⟩⟩ := runCompleteH2_eq_next.1 h
    · exact .erred (.refl _) _
    · exact (lineCheck2D_leaves hl rfl).after (.work s ..)

theorem verticalMode_leaves {k : Int} {w : Nat} (h : verticalMode k w s = .next t) : Leaves s t := by
  obtain ⟨hp, ⟨-, rfl⟩ | ⟨-, -, -, ⟨-, rfl⟩ | ⟨-, -, -, hl⟩⟩⟩ := verticalMode_eq_next.1 h
  · exact .erred (.refl _) _
  · exact .erred (.work s ..) _
  · exact (lineCheck2D_leaves hl hp).after (.work s ..)

theorem phase_ne_done_of_runColor {c : Color} (hc : runColor s = some c) : s.phase ≠ .done :=
  (busy_iff_ne.1 (busy_of_runColor hc)).2

theorem exec_leaves {i : Instr} (h : exec i s = .next t) : Leaves s t := by
  rw [exec_eq_op] at h
  cases hop : opOf i <;> rw [hop] at h
  case term c n w =>
    obtain ⟨-, -, -, hr⟩ := runTerm_eq_next.1 h
    exact (runComplete_leaves hr).after (.work s ..)
  case makeup c v w =>
    obtain ⟨hc, -, -, rfl⟩ := runMakeup_eq_next.1 h
    exact .running (.work s ..) (phase_ne_done_of_runColor hc)
  case runEol c =>
    obtain ⟨-, -, rfl⟩ := runEol_eq_next.1 h
    exact .finished (.work s ..) _ (by decide)
  case pass =>
    obtain ⟨hp, -, -, hl⟩ := passMode_eq_next.1 h
    exact (lineCheck2D_leaves hl hp).after (.work s ..)
  case horizontal =>
    obtain ⟨-, -, rfl⟩ := horizontalMode_eq_next.1 h
    exact .running (.work s ..) (by simp)
  case vertical k w => exact verticalMode_leaves h
  case extension =>
    obtain ⟨-, rfl⟩ := extensionMode_eq_next.1 h
    exact .erred (.refl _) _
  case modeEol =>
    obtain ⟨-, -, rfl⟩ := modeEol_eq_next.1 h
    exact .finished (.work s ..) _ (by decide)

/-! ## What each class leaves alone -/

theorem lineCheck2D_color_racc (h : lineCheck2D s = .next t) : t.color = s.color ∧ t.racc = s.racc := by
  obtain ⟨-, rfl⟩ | ⟨-, -, -, rfl⟩ | ⟨-, -, rfl⟩ := lineCheck2D_eq_next.1 h <;> exact ⟨rfl, rfl⟩

theorem runComplete_color {L : Nat} (h : runComplete L s = .next t) (hp : s.phase ≠ .run1D) :
    t.color = s.color := by
  obtain ⟨h1, -⟩ | ⟨-, h⟩ | ⟨-, h⟩ := runComplete_eq_next.1 h
  · exact absurd h1 hp
  · obtain ⟨-, ⟨-, rfl⟩ | ⟨-, -, -, rfl⟩⟩ := runCompleteH1_eq_next.1 h <;> rfl
  · obtain ⟨-, ⟨-, rfl⟩ | ⟨-, -, hl⟩⟩ := runCompleteH2_eq_next.1 h
    · rfl
    · exact (lineCheck2D_color_racc hl).1

theorem runComplete_a0 {L : Nat} (h : runComplete L s = .next t) (hp : s.phase ≠ .hrun2) : t.a0 = s.a0 := by
  obtain ⟨-, h⟩ | ⟨-, h⟩ | ⟨h2, -⟩ := runComplete_eq_next.1 h
  · obtain ⟨-, ⟨-, rfl⟩ | ⟨-, -, rfl⟩⟩ := runComplete1D_eq_next.1 h
    · rfl
    · dsimp only
      split <;> rfl
  · obtain ⟨-, ⟨-, rfl⟩ | ⟨-, -, -, rfl⟩⟩ := runCompleteH1_eq_next.1 h <;> rfl
  · exact absurd h2 hp

/-- R205 to R207: a terminating code flips COLOR in RUN1D only and moves A0 in HRUN2 only. -/
theorem runTerm_keeps {c : Color} {n w : Nat} (h : runTerm c n w s = .next t) :
    (s.phase ≠ .run1D → t.color = s.color) ∧ (s.phase ≠ .hrun2 → t.a0 = s.a0) := by
  obtain ⟨-, -, -, hr⟩ := runTerm_eq_next.1 h
  exact ⟨fun hp => runComplete_color (s := { s.advance w with racc := 0 }) hr hp,
    fun hp => runComplete_a0 (s := { s.advance w with racc := 0 }) hr hp⟩

theorem passMode_keeps {w : Nat} (h : passMode w s = .next t) : t.color = s.color ∧ t.racc = s.racc := by
  obtain ⟨-, -, -, hl⟩ := passMode_eq_next.1 h
  exact lineCheck2D_color_racc (s := { s.advance w with a0 := (b2 s : Int) }) hl

theorem verticalMode_racc {k : Int} {w : Nat} (h : verticalMode k w s = .next t) : t.racc = s.racc := by
  obtain ⟨-, ⟨-, rfl⟩ | ⟨-, -, -, ⟨-, rfl⟩ | ⟨-, -, -, hl⟩⟩⟩ := verticalMode_eq_next.1 h
  · rfl
  · rfl
  · exact (lineCheck2D_color_racc hl).2

/-- COLOR, A0, RS and RUNS are as before. -/
abbrev KeepsLine (s t : State) : Prop := t.color = s.color ∧ t.a0 = s.a0 ∧ t.rs = s.rs ∧ t.runs = s.runs

theorem runMakeup_keeps {c : Color} {v w : Nat} (h : runMakeup c v w s = .next t) :
    KeepsLine s t ∧ t.phase = s.phase := by
  obtain ⟨-, -, -, rfl⟩ := runMakeup_eq_next.1 h
  exact ⟨⟨rfl, rfl, rfl, rfl⟩, rfl⟩

theorem makeup_format (c : Color) (v w : Nat) :
    (Op.makeup c v w).format = .runMakeup ∨ (Op.makeup c v w).format = .runXMakeup := by
  rw [Op.format]
  split <;> simp

/-- What the class of an operation leaves alone: the last six clauses of the frame, said of operations. -/
theorem opRun_keeps {o : Op} (h : o.run s = .next t) :
    (o.format = .runMakeup ∨ o.format = .runXMakeup ∨ o.format = .eol ∨ o = .horizontal ∨ o = .extension →
      KeepsLine s t) ∧
    (o.format = .runMakeup ∨ o.format = .runXMakeup → t.phase = s.phase) ∧
    (o.format = .runTerm → s.phase ≠ .run1D → t.color = s.color) ∧
    (o.format = .runTerm → s.phase ≠ .hrun2 → t.a0 = s.a0) ∧
    (o = .pass → t.color = s.color ∧ t.racc = s.racc) ∧
    (o.format = .mode → o ≠ .horizontal → t.racc = s.racc) := by
  cases o with
  | term c n w =>
    obtain ⟨hcolor, ha0⟩ := runTerm_keeps h
    simpa [Op.format] using ⟨hcolor, ha0⟩
  | makeup c v w =>
    obtain ⟨hline, hphase⟩ := runMakeup_keeps h
    obtain hf | hf := makeup_format c v w <;> simpa [hf, hphase] using hline
  | runEol c =>
    obtain ⟨-, -, rfl⟩ := runEol_eq_next.1 h
    simp [Op.format, KeepsLine]
  | pass => simpa [Op.format] using passMode_keeps h
  | horizontal =>
    obtain ⟨-, -, rfl⟩ := horizontalMode_eq_next.1 h
    simp [Op.format, KeepsLine]
  | vertical k w => simpa [Op.format] using verticalMode_racc h
  | extension =>
    obtain ⟨-, rfl⟩ := extensionMode_eq_next.1 h
    simp [Op.format, KeepsLine]
  | modeEol =>
    obtain ⟨-, -, rfl⟩ := modeEol_eq_next.1 h
    simp [Op.format, KeepsLine]

theorem eq_h_of_opOf {i : Instr} (h : opOf i = .horizontal) : i = .h := by
  cases i <;> cases h
  rfl

/-- Settles O40: the fields no engine step changes, the three ways to leave a command, then each class's own fields. -/
theorem codeWordFrame : Obligations.CodeWordFrame := by
  intro i s t h
  have hf := exec_frame h
  have hl := exec_leaves h
  rw [exec_eq_op] at h
  have hk := opRun_keeps h
  rw [opOf_format] at hk
  obtain ⟨hline, hphase, hcolor, ha0, hpass, hmode⟩ := hk
  refine ⟨⟨hf.width, hf.cmode, hf.refLine, hf.inCur, hf.inWidth, hf.inMode, hf.inRefCount, hf.inWritten,
      hf.stream, hf.inRef, hf.params, hf.hostQueue, hf.freeIndex, hf.readData, hf.doneSeen⟩,
    fun hp => ?_, fun hp => ⟨hl.keepsErrors hp, fun j hj => ?_, fun j hj => ?_⟩, ?_, hphase, hcolor, ha0, ?_, ?_⟩
  · have k := hl.keepsResults hp
    exact ⟨k.kind, k.err, k.outCur, k.outCount, k.errOffset, k.errAcc, k.errExp, k.mem⟩
  · rw [readOutRun, readOutRun, hl.outRuns hp, List.getElem?_append_right hj, List.getElem?_drop,
      Nat.add_sub_cancel' hj]
  · rw [readOutRun, hl.outRuns hp, List.getElem?_append_left hj]
  · rintro (hi | hi | hi | rfl | rfl)
    · exact hline (.inl hi)
    · exact hline (.inr (.inl hi))
    · exact hline (.inr (.inr (.inl hi)))
    · exact hline (.inr (.inr (.inr (.inl rfl))))
    · exact hline (.inr (.inr (.inr (.inr rfl))))
  · rintro rfl
    exact hpass rfl
  · exact fun hi hne => hmode hi fun hop => hne (eq_h_of_opOf hop)

/-! ## The cursor -/

theorem lineCheck2D_cur (h : lineCheck2D s = .next t) : t.cur = s.cur := by
  obtain ⟨-, rfl⟩ | ⟨-, -, -, rfl⟩ | ⟨-, -, rfl⟩ := lineCheck2D_eq_next.1 h <;> rfl

theorem runComplete_cur {L : Nat} (h : runComplete L s = .next t) : t.cur = s.cur := by
  obtain ⟨-, h⟩ | ⟨-, h⟩ | ⟨-, h⟩ := runComplete_eq_next.1 h
  · obtain ⟨-, ⟨-, rfl⟩ | ⟨-, -, rfl⟩⟩ := runComplete1D_eq_next.1 h
    · rfl
    · dsimp only
      split <;> rfl
  · obtain ⟨-, ⟨-, rfl⟩ | ⟨-, -, -, rfl⟩⟩ := runCompleteH1_eq_next.1 h <;> rfl
  · obtain ⟨-, ⟨-, rfl⟩ | ⟨-, -, hl⟩⟩ := runCompleteH2_eq_next.1 h
    · rfl
    · have hcur := lineCheck2D_cur hl
      exact hcur

/-- Settles O41: the bits are consumed before anything else is done, but where InvalidModeCode is raised. -/
theorem cursorMovesByWidth : Obligations.CursorMovesByWidth := by
  intro i s t h
  rw [exec_eq_op] at h
  rw [← opOf_width]
  cases hop : opOf i <;> rw [hop] at h
  case term c n w =>
    obtain ⟨-, -, -, hr⟩ := runTerm_eq_next.1 h
    exact .inl (runComplete_cur hr)
  case makeup c v w =>
    obtain ⟨-, -, -, rfl⟩ := runMakeup_eq_next.1 h
    exact .inl rfl
  case runEol c =>
    obtain ⟨-, -, rfl⟩ := runEol_eq_next.1 h
    exact .inl rfl
  case pass =>
    obtain ⟨-, -, -, hl⟩ := passMode_eq_next.1 h
    exact .inl (lineCheck2D_cur hl)
  case horizontal =>
    obtain ⟨-, -, rfl⟩ := horizontalMode_eq_next.1 h
    exact .inl rfl
  case vertical k w =>
    obtain ⟨-, ⟨-, rfl⟩ | ⟨-, -, -, ⟨-, rfl⟩ | ⟨-, -, -, hl⟩⟩⟩ := verticalMode_eq_next.1 h
    · exact .inr ⟨rfl, rfl, rfl, rfl⟩
    · exact .inl rfl
    · exact .inl (lineCheck2D_cur hl)
  case extension =>
    obtain ⟨-, rfl⟩ := extensionMode_eq_next.1 h
    exact .inr ⟨rfl, rfl, rfl, rfl⟩
  case modeEol =>
    obtain ⟨-, -, rfl⟩ := modeEol_eq_next.1 h
    exact .inl rfl

/-- Settles O43: an engine step's frame holds every input. -/
theorem engineLeavesInputs : Obligations.EngineLeavesInputs := by
  intro s t h
  have hf := engineStep_frame h
  exact ⟨hf.stream.symm, hf.inRef.symm, hf.params.symm, hf.inCur.symm, hf.inWidth.symm, hf.inMode.symm,
    hf.inRefCount.symm, hf.inWritten.symm⟩

/-- Settles O46: the code word fetched lies within the stream and has at least one bit; every other end is in DONE. -/
theorem stepConsumesOrEnds : Obligations.StepConsumesOrEnds := by
  intro s t hi hb h
  have hcur : s.cur ≤ s.mem.stream.length := ((inv_iff_of_busy hb).1 hi).1.cur_le
  obtain ⟨hf, -⟩ | ⟨i, hf, hx⟩ | ⟨e, -, rfl⟩ := engineStep_eq_next.1 h
  · exact absurd (hb.symm.trans (fetch_eq_waiting_iff.1 hf)) (by decide)
  · have hfits := (fetch_eq_instr hf).2
    have hpos := encode_length_pos i
    obtain hc | ⟨hc, hp, -⟩ := cursorMovesByWidth i s t hx
    · exact ⟨by omega, by omega, .inr (by omega)⟩
    · exact ⟨by omega, by omega, .inl hp⟩
  · exact ⟨le_refl _, hcur, .inl rfl⟩

end Sys2Proof.Machine
end

section
/-! PROOFS. A command's answer depends on nothing but its inputs (spec/10_state.md R40, spec/43_scanline.md R217): a
state stripped of what no answer depends on gives the same answer, and two STARTs on the same inputs strip alike. -/

namespace Sys2Proof.Machine

open Sys2Proof.Safety

variable {s t : State} {ref : List Nat}

/-! ## What no answer depends on -/

/-- A state without the model's own fields of the host and the OUT_RUNS cells from OUT_COUNT on, and with `ref` for the
reference line. -/
def State.stripped (ref : List Nat) (s : State) : State :=
  { s with refLine := ref, mem := { s.mem with outRuns := resultRuns s }, hostQueue := [], freeIndex := 0
           readData := 0 }

/-- The result with its next state stripped. -/
def stripResult (ref : List Nat) (r : Result) : Result := andThen r fun s => .next (s.stripped ref)

@[simp] theorem stripResult_next : stripResult ref (.next s) = .next (s.stripped ref) := rfl
@[simp] theorem stripResult_fault (x : Fault) : stripResult ref (.fault x) = .fault x := rfl
@[simp] theorem stripResult_refused (x : Refusal) : stripResult ref (.refused x) = .refused x := rfl

theorem lineAnswer_stripped (ref : List Nat) (s : State) : lineAnswer (s.stripped ref) = lineAnswer s := by
  have hruns : resultRuns (s.stripped ref) = resultRuns s := by
    simp [State.stripped, resultRuns]
  unfold lineAnswer
  rw [hruns]
  rfl

theorem answerOf_stripResult (ref : List Nat) (r : Result) : answerOf (stripResult ref r) = answerOf r := by
  cases r with
  | next s => exact lineAnswer_stripped ref s
  | fault x => rfl
  | refused x => rfl

theorem stripped_stripped (s : State) : (s.stripped ref).stripped ref = s.stripped ref := by
  simp [State.stripped, resultRuns]

/-! ## The operations on a stripped state -/

/-- `f` answers alike on a state and on the state stripped. -/
abbrev StripsAlike (ref : List Nat) (f : State → Result) (s : State) : Prop :=
  stripResult ref (f (s.stripped ref)) = stripResult ref (f s)

theorem strip_congr (h : s.stripped ref = t.stripped ref) :
    stripResult ref (.next s) = stripResult ref (.next t) := congrArg Host.Outcome.next h

theorem strip_next (h : t = s.stripped ref) : stripResult ref (.next t) = stripResult ref (.next s) :=
  strip_congr (by rw [h, stripped_stripped])

/-- R210: OUT_RUNS up to OUT_COUNT is RUNS, whatever stood there. -/
theorem strip_finish {k : Kind} (h : t = s.stripped ref) :
    stripResult ref (.next (t.finish k)) = stripResult ref (.next (s.finish k)) := by
  subst h
  simp [State.stripped, State.finish, storeOutRuns, resultRuns]

theorem strip_raise {e : ErrInfo} (h : t = s.stripped ref) :
    stripResult ref (.next (t.raise e)) = stripResult ref (.next (s.raise e)) :=
  strip_finish (s := s.recordErr e) (by rw [h]; rfl)

/-- An operation that goes on from the result of a stripped state. -/
theorem strip_andThen {q r : Result} {f g : State → Result} (hq : q = stripResult ref r)
    (h : ∀ u, stripResult ref (f (u.stripped ref)) = stripResult ref (g u)) :
    stripResult ref (andThen q f) = stripResult ref (andThen r g) := by
  subst hq
  cases r with
  | next u => exact h u
  | fault x => rfl
  | refused x => rfl

theorem strip_ite {c : Prop} [Decidable c] {a b a' b' : Result}
    (ha : c → stripResult ref a = stripResult ref a') (hb : ¬ c → stripResult ref b = stripResult ref b') :
    stripResult ref (if c then a else b) = stripResult ref (if c then a' else b') := by
  split
  · exact ha ‹_›
  · exact hb ‹_›

theorem ite_stripped {c : Prop} [Decidable c] {a b a' b' : Result} (ha : a' = stripResult ref a)
    (hb : b' = stripResult ref b) : (if c then a' else b') = stripResult ref (if c then a else b) := by
  split
  · exact ha
  · exact hb

theorem consume_stripped (n : Nat) : consume n (s.stripped ref) = stripResult ref (consume n s) := by
  unfold consume
  exact ite_stripped rfl rfl

theorem checkAcc_stripped (v : Nat) : checkAcc v (s.stripped ref) = stripResult ref (checkAcc v s) := by
  unfold checkAcc
  exact ite_stripped rfl rfl

theorem emit_stripped (n : Nat) : emit n (s.stripped ref) = stripResult ref (emit n s) := by
  unfold emit
  exact ite_stripped rfl rfl

theorem emitTo_stripped (a : Nat) : emitTo a (s.stripped ref) = stripResult ref (emitTo a s) := by
  unfold emitTo
  exact ite_stripped (emit_stripped _) rfl

theorem lineCheck2D_stripsAlike (s : State) : StripsAlike ref lineCheck2D s := by
  unfold StripsAlike lineCheck2D
  refine strip_ite (fun _ => strip_ite (fun _ => ?_) fun _ => strip_finish rfl) fun _ => strip_next rfl
  exact strip_andThen (emit_stripped _) fun u => strip_finish rfl

theorem runComplete1D_stripsAlike (L : Nat) (s : State) : StripsAlike ref (runComplete1D L) s := by
  unfold StripsAlike runComplete1D
  refine strip_andThen (checkAcc_stripped _) fun u => strip_ite (fun _ => strip_raise rfl) fun _ =>
    strip_andThen (emit_stripped _) fun v => ?_
  rw [apply_ite Host.Outcome.next, apply_ite Host.Outcome.next]
  exact strip_ite (fun _ => strip_finish rfl) fun _ => strip_next rfl

theorem runCompleteH1_stripsAlike (L : Nat) (s : State) : StripsAlike ref (runCompleteH1 L) s := by
  unfold StripsAlike runCompleteH1
  exact strip_andThen (checkAcc_stripped _) fun u => strip_ite (fun _ => strip_raise rfl) fun _ =>
    strip_andThen (emitTo_stripped _) fun v => strip_next rfl

theorem runCompleteH2_stripsAlike (L : Nat) (s : State) : StripsAlike ref (runCompleteH2 L) s := by
  unfold StripsAlike runCompleteH2
  exact strip_andThen (checkAcc_stripped _) fun u => strip_ite (fun _ => strip_raise rfl) fun _ =>
    strip_andThen (emit_stripped _) fun v => lineCheck2D_stripsAlike { v with rs := _, a0 := _, phase := _ }

theorem runComplete_stripsAlike (L : Nat) (s : State) : StripsAlike ref (runComplete L) s := by
  unfold StripsAlike runComplete
  rw [show (s.stripped ref).phase = s.phase from rfl]
  cases s.phase with
  | run1D => exact runComplete1D_stripsAlike L s
  | hrun1 => exact runCompleteH1_stripsAlike L s
  | hrun2 => exact runCompleteH2_stripsAlike L s
  | mode2D => rfl
  | idle => rfl
  | done => rfl

theorem runTerm_stripsAlike (c : Color) (n w : Nat) (s : State) : StripsAlike ref (runTerm c n w) s := by
  unfold StripsAlike runTerm
  exact strip_ite (fun _ => strip_andThen (consume_stripped _) fun u =>
    strip_andThen (checkAcc_stripped _) fun v => runComplete_stripsAlike _ { v with racc := 0 }) fun _ => rfl

theorem runMakeup_stripsAlike (c : Color) (v w : Nat) (s : State) : StripsAlike ref (runMakeup c v w) s := by
  unfold StripsAlike runMakeup
  exact strip_ite (fun _ => strip_andThen (consume_stripped _) fun u =>
    strip_andThen (checkAcc_stripped _) fun v => strip_next rfl) fun _ => rfl

theorem runEol_stripsAlike (c : Color) (w : Nat) (s : State) : StripsAlike ref (runEol c w) s := by
  unfold StripsAlike runEol
  exact strip_ite (fun _ => strip_andThen (consume_stripped _) fun u => strip_finish rfl) fun _ => rfl

theorem horizontalMode_stripsAlike (w : Nat) (s : State) : StripsAlike ref (horizontalMode w) s := by
  unfold StripsAlike horizontalMode
  exact strip_ite (fun _ => strip_andThen (consume_stripped _) fun u => strip_next rfl) fun _ => rfl

theorem extensionMode_stripsAlike (s : State) : StripsAlike ref extensionMode s := by
  unfold StripsAlike extensionMode
  exact strip_ite (fun _ => strip_raise rfl) fun _ => rfl

theorem modeEol_stripsAlike (w : Nat) (s : State) : StripsAlike ref (modeEol w) s := by
  unfold StripsAlike modeEol
  exact strip_ite (fun _ => strip_andThen (consume_stripped _) fun u => strip_finish rfl) fun _ => rfl

/-! ### The mode codes that read the reference line -/

/-- `ref` is the reference line, wherever a code word reads it. -/
abbrev ReadsRef (ref : List Nat) (s : State) : Prop := s.phase = .mode2D → s.refLine = ref

theorem b1_stripped (h : s.refLine = ref) : b1 (s.stripped ref) = b1 s := by
  subst h
  rfl

theorem b2_stripped (h : s.refLine = ref) : b2 (s.stripped ref) = b2 s := by
  subst h
  rfl

theorem passMode_stripsAlike (w : Nat) (s : State) (h : ReadsRef ref s) : StripsAlike ref (passMode w) s := by
  unfold StripsAlike passMode
  refine strip_ite (fun hp => ?_) fun _ => rfl
  rw [b2_stripped (h hp)]
  exact strip_andThen (consume_stripped _) fun u => strip_andThen (checkAcc_stripped _) fun v =>
    lineCheck2D_stripsAlike { v with a0 := _ }

theorem verticalMode_stripsAlike (k : Int) (w : Nat) (s : State) (h : ReadsRef ref s) :
    StripsAlike ref (verticalMode k w) s := by
  unfold StripsAlike verticalMode
  refine strip_ite (fun hp => ?_) fun _ => rfl
  rw [b1_stripped (h hp)]
  exact strip_ite (fun _ => strip_raise rfl) fun _ => strip_andThen (consume_stripped _) fun u =>
    strip_andThen (checkAcc_stripped _) fun v => strip_ite (fun _ => strip_raise rfl) fun _ =>
      strip_andThen (emitTo_stripped _) fun x => lineCheck2D_stripsAlike { x with rs := _, a0 := _, color := _ }

theorem exec_stripsAlike (i : Instr) (s : State) (h : ReadsRef ref s) : StripsAlike ref (exec i) s := by
  unfold StripsAlike
  rw [exec_eq_op, exec_eq_op]
  cases opOf i with
  | term c n w => exact runTerm_stripsAlike c n w s
  | makeup c v w => exact runMakeup_stripsAlike c v w s
  | runEol c => exact runEol_stripsAlike c 12 s
  | pass => exact passMode_stripsAlike 4 s h
  | horizontal => exact horizontalMode_stripsAlike 3 s
  | vertical k w => exact verticalMode_stripsAlike k w s h
  | extension => exact extensionMode_stripsAlike s
  | modeEol => exact modeEol_stripsAlike 12 s

theorem engineStep_stripsAlike (s : State) (h : ReadsRef ref s) : StripsAlike ref engineStep s := by
  unfold StripsAlike engineStep
  rw [show fetch (s.stripped ref) = fetch s from rfl]
  cases fetch s with
  | waiting => exact strip_next rfl
  | instr i => exact exec_stripsAlike i s h
  | error e => exact strip_raise rfl

/-! ## Whole commands -/

/-- A command that reads no reference line but `ref`: a 2D command with it latched, or one in RUN1D until it ends. -/
abbrev KeepsRef (ref : List Nat) (s : State) : Prop := s.refLine = ref ∨ s.phase = .run1D ∨ s.phase = .done

theorem KeepsRef.readsRef (h : KeepsRef ref s) : ReadsRef ref s := by
  intro hp
  obtain h | h | h := h
  · exact h
  · simp [hp] at h
  · simp [hp] at h

theorem runComplete_phase_of_run1D {L : Nat} (h : runComplete L s = .next t) (hp : s.phase = .run1D) :
    t.phase = .run1D ∨ t.phase = .done := by
  simp only [runComplete, hp] at h
  obtain ⟨-, ⟨-, rfl⟩ | ⟨-, -, rfl⟩⟩ := runComplete1D_eq_next.1 h
  · exact .inr rfl
  · dsimp only
    split
    · exact .inr rfl
    · exact .inl hp

/-- R219: a 1D command stays in RUN1D until it ends. -/
theorem exec_phase_of_run1D {i : Instr} (h : exec i s = .next t) (hp : s.phase = .run1D) :
    t.phase = .run1D ∨ t.phase = .done := by
  rw [exec_eq_op] at h
  cases hop : opOf i <;> rw [hop] at h
  case term c n w =>
    obtain ⟨-, -, -, hr⟩ := runTerm_eq_next.1 h
    exact runComplete_phase_of_run1D hr hp
  case makeup c v w =>
    obtain ⟨-, -, -, rfl⟩ := runMakeup_eq_next.1 h
    exact .inl hp
  case runEol c =>
    obtain ⟨-, -, rfl⟩ := runEol_eq_next.1 h
    exact .inr rfl
  case pass => simp [(passMode_eq_next.1 h).1] at hp
  case horizontal => simp [(horizontalMode_eq_next.1 h).1] at hp
  case vertical k w => simp [(verticalMode_eq_next.1 h).1] at hp
  case extension => simp [(extensionMode_eq_next.1 h).1] at hp
  case modeEol => simp [(modeEol_eq_next.1 h).1] at hp

theorem engineStep_keepsRef (h : engineStep s = .next t) (hk : KeepsRef ref s) : KeepsRef ref t := by
  obtain hr | hp := hk
  · exact .inl ((engineStep_frame h).refLine.trans hr)
  · obtain ⟨-, rfl⟩ | ⟨i, hf, hx⟩ | ⟨e, -, rfl⟩ := engineStep_eq_next.1 h
    · exact .inr hp
    · obtain hp | hp := hp
      · exact .inr (exec_phase_of_run1D hx hp)
      · simp [fetch, currentTable, runColor, hp] at hf
    · exact .inr (.inr rfl)

/-- Two results that strip alike go on alike where every two states that strip alike do. -/
theorem strip_andThen_of_alike {q r : Result} {f : State → Result} (h : stripResult ref q = stripResult ref r)
    (hf : ∀ u v, q = .next u → r = .next v → u.stripped ref = v.stripped ref →
      stripResult ref (f u) = stripResult ref (f v)) :
    stripResult ref (andThen q f) = stripResult ref (andThen r f) := by
  cases q with
  | next u =>
    cases r with
    | next v => exact hf u v rfl rfl (Host.Outcome.next.inj h)
    | fault x => cases h
    | refused x => cases h
  | fault x =>
    cases r <;> cases h
    rfl
  | refused x =>
    cases r <;> cases h
    rfl

/-- Any number of engine steps answer alike from two states that strip alike. -/
theorem runCommand_alike (n : Nat) (hs : KeepsRef ref s) (ht : KeepsRef ref t)
    (h : s.stripped ref = t.stripped ref) :
    stripResult ref (runCommand n s) = stripResult ref (runCommand n t) := by
  induction n generalizing s t with
  | zero => exact strip_congr h
  | succ n ih =>
    have hbusy : s.busy = t.busy := show (s.stripped ref).busy = (t.stripped ref).busy by rw [h]
    have hstep : stripResult ref (engineStep s) = stripResult ref (engineStep t) := by
      rw [← engineStep_stripsAlike s hs.readsRef, h, engineStep_stripsAlike t ht.readsRef]
    unfold runCommand
    rw [hbusy]
    exact strip_ite (fun _ => strip_andThen_of_alike hstep fun u v hu hv =>
      ih (engineStep_keepsRef hu hs) (engineStep_keepsRef hv ht)) fun _ => strip_congr h

/-! ## START -/

theorem startRefusal_congr (h : SameInputs s t) (hs : s.phase = .idle ∨ s.phase = .done)
    (ht : t.phase = .idle ∨ t.phase = .done) : startRefusal s = startRefusal t := by
  obtain ⟨hstream, -, hparams, hcur, hwidth, -, hcount, hwritten⟩ := h
  simp only [startRefusal, hs, ht, hstream, hparams, hcur, hwidth, hcount, hwritten]

/-- R200: what stripping leaves, START sets from the inputs, or it is an input. -/
theorem startCommand_stripped (h : SameInputs s t) (m : CodingMode) (r q : List Nat) :
    (s.startCommand m r).stripped ref = (t.startCommand m q).stripped ref := by
  obtain ⟨hstream, hinRef, hparams, hcur, hwidth, hmode, hcount, hwritten⟩ := h
  simp [State.stripped, State.startCommand, resultRuns, hstream, hinRef, hparams, hcur, hwidth, hmode, hcount,
    hwritten]

theorem start2D_alike (h : SameInputs s t) (m : CodingMode) :
    stripResult ref (start2D m s) = stripResult ref (start2D m t) := by
  have hstart := startCommand_stripped (ref := ref) h m
  obtain ⟨-, hinRef, -, -, hwidth, -, hcount, hwritten⟩ := h
  unfold start2D
  rw [hinRef, hwidth, hcount, hwritten]
  refine strip_ite (fun _ => ?_) fun _ => rfl
  cases readCells t.inRefCount 0 t.mem.inRef with
  | none => rfl
  | some r => exact strip_ite (fun _ => strip_congr (hstart r r)) fun _ => rfl

theorem strobeStart_alike (h : SameInputs s t) (hs : s.phase = .idle ∨ s.phase = .done)
    (ht : t.phase = .idle ∨ t.phase = .done) :
    stripResult ref (strobeStart s) = stripResult ref (strobeStart t) := by
  have hmode : s.inMode = t.inMode := by
    obtain ⟨-, -, -, -, -, hmode, -⟩ := h
    exact hmode
  unfold strobeStart
  rw [startRefusal_congr h hs ht, hmode]
  split
  · rfl
  · split
    · rfl
    · exact strip_congr (startCommand_stripped h _ _ _)
    · exact start2D_alike h _
    · exact start2D_alike h _

/-- The counted cells of IN_REF, as a 2D START latches them (R31). -/
def countedRef (s : State) : List Nat := (readCells s.inRefCount 0 s.mem.inRef).getD []

theorem start2D_keepsRef {m : CodingMode} (h : start2D m s = .next t) : KeepsRef (countedRef s) t := by
  obtain ⟨-, ref, href, -, rfl⟩ := start2D_eq_next.1 h
  exact .inl (by rw [countedRef, href]; rfl)

theorem strobeStart_keepsRef (h : strobeStart s = .next t) : KeepsRef (countedRef s) t := by
  obtain ⟨-, ⟨-, rfl⟩ | ⟨-, h2⟩ | ⟨-, h2⟩⟩ := strobeStart_eq_next.1 h
  · exact .inr (.inl rfl)
  · exact start2D_keepsRef h2
  · exact start2D_keepsRef h2

/-- Settles O48: the two STARTs strip alike, the commands they begin read no other reference line than the one latched,
and engine steps keep both. -/
theorem sameInputsSameAnswer : Obligations.SameInputsSameAnswer := by
  intro s t h hs ht n
  have href : countedRef t = countedRef s := by
    obtain ⟨-, hinRef, -, -, -, -, hcount, -⟩ := h
    rw [countedRef, countedRef, hinRef, hcount]
  rw [← answerOf_stripResult (countedRef s), ← answerOf_stripResult (countedRef s) (andThen (strobeStart t) _)]
  exact congrArg answerOf (strip_andThen_of_alike (strobeStart_alike h hs ht) fun u v hu hv =>
    runCommand_alike n (strobeStart_keepsRef hu) (href ▸ strobeStart_keepsRef hv))

end Sys2Proof.Machine
end

section
/-! PROOFS. The memories as the host and the engine see them: the bit-stream port (spec/20_memory.md R61, R62), the
run-buffer cells (R60) and the stream bits of the host's bytes (R66, R273). -/

namespace Sys2Proof

/-! ## Bit strings -/

/-- The last bit is the least significant. -/
theorem ofBits_concat (b : Bits) (x : Bit) : ofBits (b ++ [x]) = Nat.bit x (ofBits b) := by
  rw [Nat.bit_val, ofBits, List.foldl_append]
  rfl

theorem testBit_ofBits (b : Bits) (k : Nat) : (ofBits b).testBit k = b.reverse.getD k false := by
  induction b using List.reverseRecOn generalizing k with
  | nil => simp [ofBits]
  | append_singleton b x ih =>
    rw [ofBits_concat, List.reverse_append]
    cases k with
    | zero => simp
    | succ k => simp [Nat.testBit_bit_succ, ih]

theorem getElem?_toBits {n j : Nat} (v : Nat) (h : j < n) : (toBits n v)[j]? = some (v.testBit (n - 1 - j)) := by
  induction n generalizing j with
  | zero => omega
  | succ n ih =>
    cases j with
    | zero => simp [toBits]
    | succ j =>
      have hsub : n + 1 - 1 - (j + 1) = n - 1 - j := by omega
      rw [hsub, toBits, List.getElem?_cons_succ, ih (by omega)]

namespace Machine

/-! ## The bit-stream port -/

@[simp] theorem padded_length (n : Nat) (bits : Bits) : (padded n bits).length = n := by
  induction n generalizing bits with
  | zero => rfl
  | succ n ih => cases bits <;> simp [padded, ih]

theorem getElem?_padded {n j : Nat} (bits : Bits) (h : j < n) : (padded n bits)[j]? = some (bits.getD j false) := by
  induction n generalizing j bits with
  | zero => omega
  | succ n ih =>
    cases j with
    | zero => cases bits <;> simp [padded]
    | succ j => cases bits <;> simp [padded, ih _ (Nat.lt_of_succ_lt_succ h)]

/-- R61: the next bits from the top down, in a window that holds them all. -/
theorem getLsbD_peekBits {n j : Nat} (bits : Bits) (hn : n ≤ 16) (hj : j < n) :
    (peekBits n bits).getLsbD (n - 1 - j) = bits.getD j false := by
  have hrev : (padded n bits).reverse[n - 1 - j]? = some (bits.getD j false) := by
    rw [List.getElem?_reverse (by rw [padded_length]; omega), padded_length, ← getElem?_padded bits hj]
    congr 1
    omega
  have hlt : n - 1 - j < 16 := by omega
  simp only [peekBits, BitVec.getLsbD_ofNat, testBit_ofBits, List.getD_eq_getElem?_getD, hrev, hlt, decide_true,
    Bool.true_and, Option.getD_some]

theorem getLsbD_peekBits_of_le {n k : Nat} (bits : Bits) (h : n ≤ k) : (peekBits n bits).getLsbD k = false := by
  have hout : (padded n bits).reverse.getD k false = false := List.getD_eq_default _ _ (by simpa using h)
  rw [peekBits, BitVec.getLsbD_ofNat, testBit_ofBits, hout, Bool.and_false]

/-- R62: the port reads 0 at and past N. -/
theorem getD_remaining (s : State) (j : Nat) : (remaining s).getD j false =
    if s.cur + j < s.mem.stream.length then s.mem.stream.getD (s.cur + j) false else false := by
  rw [remaining, List.getD_eq_getElem?_getD, List.getElem?_drop, ← List.getD_eq_getElem?_getD]
  split
  · rfl
  · exact List.getD_eq_default _ _ (by omega)

/-- Settles O11: a peek reads the next bits from its top bit down, a consume within P_CUR_BITS moves CUR, and the
other two operations are as R61 defines them. -/
theorem bitStreamPort : Obligations.BitStreamPort := by
  refine ⟨fun s n hn => ⟨fun j hj => ?_, fun k => getLsbD_peekBits_of_le _⟩, fun _ => rfl,
    fun s n _ hfits => consume_of_fits hfits, fun _ => rfl, fun _ => beq_iff_eq⟩
  rw [getLsbD_peekBits _ (by omega) hj, getD_remaining]

/-! ## Run-buffer cells -/

theorem readCells_succ_eq_some {n i : Nat} {cells : Cells} {vs : List Nat} : readCells (n + 1) i cells = some vs ↔
    ∃ v ws, readCell i cells = some v ∧ readCells n (i + 1) cells = some ws ∧ v :: ws = vs := by
  rw [readCells]
  cases readCell i cells <;> cases readCells n (i + 1) cells <;> simp

/-- A range of cells is read as a list exactly when each cell holds the list's entry. -/
theorem readCells_eq_some_iff {n i : Nat} {cells : Cells} {vs : List Nat} : readCells n i cells = some vs ↔
    vs.length = n ∧ ∀ k < n, readCell (i + k) cells = vs[k]? := by
  induction n generalizing i vs with
  | zero => simp [readCells, eq_comm]
  | succ n ih =>
    rw [readCells_succ_eq_some]
    constructor
    · rintro ⟨v, ws, hv, hws, rfl⟩
      obtain ⟨hlen, hcells⟩ := ih.1 hws
      refine ⟨by rw [List.length_cons, hlen], fun k hk => ?_⟩
      cases k with
      | zero => exact hv
      | succ k =>
        rw [← Nat.add_assoc, Nat.add_right_comm, List.getElem?_cons_succ]
        exact hcells k (Nat.lt_of_succ_lt_succ hk)
    · rintro ⟨hlen, hcells⟩
      cases vs with
      | nil => simp at hlen
      | cons v ws =>
        refine ⟨v, ws, hcells 0 n.succ_pos, ih.2 ⟨Nat.succ.inj hlen, fun k hk => ?_⟩, rfl⟩
        rw [Nat.add_right_comm, Nat.add_assoc, hcells (k + 1) (Nat.succ_lt_succ hk), List.getElem?_cons_succ]

/-- Settles O22: a written cell holds its value, the others theirs, and a range is read cell by cell. -/
theorem runBufferCells : Obligations.RunBufferCells :=
  ⟨fun cells i v => ⟨readCell_writeCell_same i v cells, fun _ => readCell_writeCell_other v cells⟩,
    fun _ _ _ _ => readCells_eq_some_iff⟩

/-! ## The host's bytes as stream bits -/

theorem byteBits_length (f : FillOrder) (b : Byte) : (byteBits f b).length = 8 := by
  cases f <;> simp [byteBits]

theorem getElem?_byteBits_msbFirst {j : Nat} (b : Byte) (h : j < 8) :
    (byteBits .msbFirst b)[j]? = some (b.getLsbD (7 - j)) := getElem?_toBits _ h

theorem getElem?_byteBits_lsbFirst {j : Nat} (b : Byte) (h : j < 8) :
    (byteBits .lsbFirst b)[j]? = some (b.getLsbD j) := by
  have hback : 8 - 1 - (8 - 1 - j) = j := by omega
  rw [byteBits, List.getElem?_reverse (by rwa [toBits_length]), toBits_length, getElem?_toBits _ (by omega), hback]
  rfl

/-- R66: byte `k` gives the eight stream bits from `8k` on. -/
theorem getElem?_streamOfBytes {f : FillOrder} {bytes : List Byte} {k j : Nat} {b : Byte}
    (hb : bytes[k]? = some b) (hj : j < 8) : (streamOfBytes f bytes)[8 * k + j]? = (byteBits f b)[j]? := by
  induction bytes generalizing k with
  | nil => simp at hb
  | cons c cs ih =>
    have hcons : streamOfBytes f (c :: cs) = byteBits f c ++ streamOfBytes f cs := List.flatMap_cons
    rw [hcons]
    cases k with
    | zero =>
      obtain rfl : c = b := by simpa using hb
      rw [Nat.mul_zero, Nat.zero_add, List.getElem?_append_left (by rwa [byteBits_length])]
    | succ k =>
      have hsub : 8 * (k + 1) + j - 8 = 8 * k + j := by omega
      rw [List.getElem?_append_right (by rw [byteBits_length]; omega), byteBits_length, hsub]
      exact ih (by simpa using hb)

/-- Settles O23: each byte's eight bits stand in the order FILL_ORDER gives, and a load outside BUSY replaces the
stream alone. -/
theorem fillOrderMapsBytes : Obligations.FillOrderMapsBytes := by
  refine ⟨fun bytes k j b hb hj => ⟨?_, ?_⟩, fun s bytes n rest hq => ⟨fun hbusy => ?_, fun hbusy => ?_⟩⟩
  · rw [getElem?_streamOfBytes hb hj, getElem?_byteBits_msbFirst b hj]
  · rw [getElem?_streamOfBytes hb hj, getElem?_byteBits_lsbFirst b hj]
  · rw [step_of_hostAction hq nofun]
    exact if_pos hbusy
  · rw [step_of_hostAction hq nofun, popAction_of_queue hq]
    exact loadStream_eq_next.2 ⟨hbusy, rfl⟩

end Machine

end Sys2Proof
end

section
/-! PROOFS. The decoder and the encoder are inverse, and no code word of a table begins another
(spec/30_encoding.md R90, R97). -/

namespace Sys2Proof

variable {t : Table} {bits rest : Bits} {i : Instr} {row : CodeRow}

/-! ## The rows of a table -/

theorem codeRows_width : ∀ t, ∀ row ∈ codeRows t, row.width ≤ t.maxLen := by
  intro t; cases t <;> decide

theorem codeRows_apart : ∀ t, (codeRows t).Pairwise CodeRow.Apart
  | .white => whiteRows_apart
  | .black => blackRows_apart
  | .mode => modeRows_apart

/-- R97: no row's code word begins another's. -/
theorem codeRow_eq_of_prefix {a b : CodeRow} (ha : a ∈ codeRows t) (hb : b ∈ codeRows t)
    (h : a.word <+: b.word) : a = b := by
  by_contra hne
  have hsymm : Std.Symm CodeRow.Apart := ⟨fun _ _ h => h.symm⟩
  obtain ⟨hapart, -⟩ := (codeRows_apart t).forall ha hb hne
  rw [List.isPrefixOf_iff_prefix.2 h] at hapart
  exact absurd hapart (by decide)

/-- At most one row's code word stands at the head of the bits. -/
theorem codeRow_eq_of_prefix_bits {a b : CodeRow} (ha : a ∈ codeRows t) (hb : b ∈ codeRows t)
    (hab : a.word <+: bits) (hbb : b.word <+: bits) : a = b := by
  obtain h | h := List.prefix_or_prefix_of_prefix hab hbb
  · exact codeRow_eq_of_prefix ha hb h
  · exact (codeRow_eq_of_prefix hb ha h).symm

open Laws.RowOf in
/-- The family `RowOf` as one statement. -/
theorem rowOf_statement (i : Instr) : Statement i := by
  cases i
  exacts [
    wt0, wt1, wt2, wt3, wt4, wt5, wt6, wt7, wt8, wt9, wt10, wt11, wt12, wt13, wt14, wt15, wt16, wt17, wt18,
    wt19, wt20, wt21, wt22, wt23, wt24, wt25, wt26, wt27, wt28, wt29, wt30, wt31, wt32, wt33, wt34, wt35, wt36,
    wt37, wt38, wt39, wt40, wt41, wt42, wt43, wt44, wt45, wt46, wt47, wt48, wt49, wt50, wt51, wt52, wt53, wt54,
    wt55, wt56, wt57, wt58, wt59, wt60, wt61, wt62, wt63, wm64, wm128, wm192, wm256, wm320, wm384, wm448,
    wm512, wm576, wm640, wm704, wm768, wm832, wm896, wm960, wm1024, wm1088, wm1152, wm1216, wm1280, wm1344,
    wm1408, wm1472, wm1536, wm1600, wm1664, wm1728, wx1792, wx1856, wx1920, wx1984, wx2048, wx2112, wx2176,
    wx2240, wx2304, wx2368, wx2432, wx2496, wx2560, weol, bt0, bt1, bt2, bt3, bt4, bt5, bt6, bt7, bt8, bt9,
    bt10, bt11, bt12, bt13, bt14, bt15, bt16, bt17, bt18, bt19, bt20, bt21, bt22, bt23, bt24, bt25, bt26, bt27,
    bt28, bt29, bt30, bt31, bt32, bt33, bt34, bt35, bt36, bt37, bt38, bt39, bt40, bt41, bt42, bt43, bt44, bt45,
    bt46, bt47, bt48, bt49, bt50, bt51, bt52, bt53, bt54, bt55, bt56, bt57, bt58, bt59, bt60, bt61, bt62, bt63,
    bm64, bm128, bm192, bm256, bm320, bm384, bm448, bm512, bm576, bm640, bm704, bm768, bm832, bm896, bm960,
    bm1024, bm1088, bm1152, bm1216, bm1280, bm1344, bm1408, bm1472, bm1536, bm1600, bm1664, bm1728, bx1792,
    bx1856, bx1920, bx1984, bx2048, bx2112, bx2176, bx2240, bx2304, bx2368, bx2432, bx2496, bx2560, beol, p, h,
    v0, vr1, vr2, vr3, vl1, vl2, vl3, ext, eol]

/-- Every code word has a row in its own table. -/
theorem exists_codeRow (i : Instr) : ∃ row ∈ codeRows i.table, row.instr = i ∧ row.word = encode i := by
  obtain ⟨row, hrow, hi, hword, -⟩ := rowOf_statement i
  exact ⟨row, hrow, hi, hword⟩

theorem encode_length_le_maxLen (ht : i.table = t) : (encode i).length ≤ t.maxLen := by
  obtain ⟨row, -, -, -, hwidth, hle⟩ := rowOf_statement i
  rwa [← hwidth, ← ht]

/-! ## Decoding -/

/-- The cut at MAXLEN takes no code word away. -/
theorem word_prefix_take (hrow : row ∈ codeRows t) : row.word <+: bits.take t.maxLen ↔ row.word <+: bits := by
  rw [List.prefix_take_iff, row.word_length, and_iff_left (codeRows_width t row hrow)]

theorem mem_and_prefix_of_find
    (h : (codeRows t).find? (fun row => row.word.isPrefixOf (bits.take t.maxLen)) = some row) :
    row ∈ codeRows t ∧ row.word <+: bits := by
  have hrow := List.mem_of_find?_eq_some h
  have hword := List.find?_some (p := fun row : CodeRow => row.word.isPrefixOf (bits.take t.maxLen)) h
  exact ⟨hrow, (word_prefix_take hrow).1 (List.isPrefixOf_iff_prefix.1 hword)⟩

/-- A row's code word at the head of the bits is what the decoder reads. -/
theorem decode_of_row (hrow : row ∈ codeRows t) (hword : row.word <+: bits) :
    decode t bits = .code row.instr (bits.drop row.width) := by
  unfold decode
  dsimp only
  cases hfind : (codeRows t).find? (fun r => r.word.isPrefixOf (bits.take t.maxLen)) with
  | none =>
    rw [List.find?_eq_none] at hfind
    exact absurd (List.isPrefixOf_iff_prefix.2 ((word_prefix_take hrow).2 hword)) (hfind row hrow)
  | some other =>
    obtain ⟨hother, hprefix⟩ := mem_and_prefix_of_find hfind
    rw [codeRow_eq_of_prefix_bits hother hrow hprefix hword]

theorem decode_encode_append (i : Instr) (rest : Bits) : decode i.table (encode i ++ rest) = .code i rest := by
  obtain ⟨row, hrow, rfl, hword⟩ := exists_codeRow i
  rw [decode_of_row hrow (hword ▸ List.prefix_append _ _), ← hword, ← row.word_length, List.drop_left]

/-- What the decoder reads stands at the head of the bits. -/
theorem eq_encode_append_of_decode (h : decode t bits = .code i rest) : bits = encode i ++ rest := by
  unfold decode at h
  dsimp only at h
  split at h
  · rename_i row hfind
    obtain ⟨rfl, rfl⟩ := Decoded.code.inj h
    obtain ⟨hrow, hword⟩ := mem_and_prefix_of_find hfind
    rw [← codeRows_word t row hrow, ← row.word_length]
    exact List.prefix_append_drop hword
  · split at h <;> cases h

theorem decode_eq_code_iff : decode t bits = .code i rest ↔ i.WfIn t ∧ bits = encode i ++ rest := by
  constructor
  · intro h
    exact ⟨(decode_code h).1, eq_encode_append_of_decode h⟩
  · rintro ⟨rfl, rfl⟩
    exact decode_encode_append i rest

/-- Settles O2: the row found is of the table and stands in the bits, and a code word's own row is the one found. -/
theorem decodeIsEncodeInverse : Obligations.DecodeIsEncodeInverse := fun _ _ _ _ => decode_eq_code_iff

/-- Settles O1: each string is the code word followed by the bits left over. -/
theorem sampleWordsDecode : Obligations.SampleWordsDecode := by
  refine ⟨?_, ?_, ?_, ?_, ?_, ?_, ?_, ?_, ?_, ?_, ?_, ?_, ?_, ?_, ?_, ?_⟩ <;>
    exact decode_eq_code_iff.2 ⟨rfl, rfl⟩

/-! ## Prefixes and lengths -/

/-- R97 for the encoder's code words. -/
theorem eq_of_encode_prefix {j : Instr} (ht : i.table = j.table) (h : encode i <+: encode j) : i = j := by
  obtain ⟨a, ha, rfl, haw⟩ := exists_codeRow i
  obtain ⟨b, hb, rfl, hbw⟩ := exists_codeRow j
  rw [ht] at ha
  rw [← haw, ← hbw] at h
  rw [codeRow_eq_of_prefix ha hb h]

/-- Only EOL of the mode table is longer than the table's window. -/
theorem eq_eol_of_length (ht : i.table = .mode) (h : 7 < (encode i).length) : i = .eol := by
  have hrows : ∀ row ∈ codeRows .mode, 7 < row.width → row.instr = .eol := by decide
  obtain ⟨row, hrow, rfl, hword⟩ := exists_codeRow i
  rw [← hword, row.word_length] at h
  exact hrows row (ht ▸ hrow) h

/-- Settles O3: two code words' rows are the same row, and a code word's row is the one the decoder finds. -/
theorem codeSetsPrefixFree : Obligations.CodeSetsPrefixFree := by
  refine ⟨fun i j => eq_of_encode_prefix, fun t bits i ht h => ?_, fun i => ⟨encode_length_pos i,
    encode_length_le_maxLen, encode_length_le_maxLen, fun ht => ⟨encode_length_le_maxLen ht, eq_eol_of_length ht⟩⟩⟩
  exact decode_eq_code_iff.2 ⟨ht, List.prefix_append_drop h⟩

end Sys2Proof
end

section
/-! PROOFS. Bit strings as numbers: the masked window of spec/30_encoding.md R101. The illegal patterns of R99: with
the illegal zeros beside its code words, each table is a complete code. -/

namespace Sys2Proof

/-! ## Bit strings as numbers -/

theorem toBits_add (m k v : Nat) : toBits (m + k) v = toBits m (v >>> k) ++ toBits k v := by
  induction m with
  | zero => simp [toBits]
  | succ m ih => rw [Nat.succ_add, toBits, toBits, ih, Nat.testBit_shiftRight, Nat.add_comm k m, List.cons_append]

/-- The last bit is the least significant. -/
theorem toBits_concat (n v : Nat) : toBits (n + 1) v = toBits n (v >>> 1) ++ [v.testBit 0] := toBits_add n 1 v

theorem ofBits_toBits {n v : Nat} (hv : v < 2 ^ n) : ofBits (toBits n v) = v := by
  induction n generalizing v with
  | zero =>
    obtain rfl : v = 0 := by simpa using hv
    rfl
  | succ n ih =>
    have hhalf : v >>> 1 < 2 ^ n := by rw [Nat.shiftRight_one]; omega
    rw [toBits_concat, ofBits_concat, ih hhalf, Nat.bit_testBit_zero_shiftRight_one]

theorem toBits_ofBits (b : Bits) : toBits b.length (ofBits b) = b := by
  induction b using List.reverseRecOn with
  | nil => rfl
  | append_singleton b x ih =>
    rw [List.length_append, List.length_singleton, toBits_concat, ofBits_concat, Nat.bit_shiftRight_one, ih,
      Nat.testBit_bit_zero]

/-- A bit string stands at the head of a number's `n` bits exactly where the number begins with it. -/
theorem prefix_toBits_iff {w : Bits} {n v : Nat} (hw : w.length ≤ n) (hv : v < 2 ^ n) :
    w <+: toBits n v ↔ ofBits w = v >>> (n - w.length) := by
  obtain ⟨k, rfl⟩ := Nat.exists_eq_add_of_le hw
  have hhead : v >>> k < 2 ^ w.length := by
    rwa [Nat.shiftRight_eq_div_pow, Nat.div_lt_iff_lt_mul (Nat.two_pow_pos k), ← pow_add]
  rw [Nat.add_sub_cancel_left, toBits_add, List.prefix_iff_eq_take, List.take_left' (toBits_length _ _)]
  constructor
  · intro h
    rw [h, ofBits_toBits hhead]
  · intro h
    rw [← h, toBits_ofBits]

/-! ## The masked window -/

/-- A mask of the top `n` of `n + k` bits clears the other `k`. -/
theorem and_topMask {n k v : Nat} (hv : v < 2 ^ (n + k)) : v &&& (2 ^ n - 1) <<< k = v >>> k <<< k := by
  refine Nat.eq_of_testBit_eq fun j => ?_
  simp only [Nat.testBit_and, Nat.testBit_shiftLeft, Nat.testBit_two_pow_sub_one, Nat.testBit_shiftRight]
  by_cases hk : k ≤ j
  · by_cases hn : j - k < n
    · simp [hk, hn]
    · have hzero : v.testBit j = false :=
        Nat.testBit_lt_two_pow (hv.trans_le (Nat.pow_le_pow_right (by decide) (by omega)))
      simp [hk, hzero]
  · simp [hk]

theorem encode_length_le (i : Instr) : (encode i).length ≤ 13 :=
  (encode_length_le_maxLen rfl).trans (by cases i.table <;> decide)

/-- Settles O10: the masked window is the window's first bits, and those are the code word's number. -/
theorem windowMatchesRow : Obligations.WindowMatchesRow := by
  intro i v hv
  have hlen : (encode i).length + (13 - (encode i).length) = 13 := Nat.add_sub_cancel' (encode_length_le i)
  rw [prefix_toBits_iff (encode_length_le i) hv, Instr.mask, Instr.matchValue, and_topMask (by rwa [hlen]),
    Nat.shiftLeft_eq, Nat.shiftLeft_eq, Nat.mul_left_inj (Nat.two_pow_pos _).ne', eq_comm]

/-! ## Complete codes -/

/-- What follows the bit `b` in the strings that begin with it. -/
def tailsAfter (b : Bit) (ws : List Bits) : List Bits :=
  (ws.filter fun w => w.head? == some b).map List.tail

/-- Whether every branch of the strings' tree ends, within `n` bits, at one of the strings. -/
def isComplete : Nat → List Bits → Bool
  | 0, ws => ws.contains []
  | n + 1, ws => ws.contains [] || (isComplete n (tailsAfter false ws) && isComplete n (tailsAfter true ws))

theorem cons_mem_of_mem_tailsAfter {b : Bit} {w : Bits} {ws : List Bits} (h : w ∈ tailsAfter b ws) :
    b :: w ∈ ws := by
  obtain ⟨u, hu, rfl⟩ := List.mem_map.1 h
  obtain ⟨hmem, hhead⟩ := List.mem_filter.1 hu
  rwa [List.cons_head?_tail (eq_of_beq hhead)]

/-- No string leaves a complete code: it begins with a code word or is cut short inside one. -/
theorem exists_comparable_of_isComplete {n : Nat} {ws : List Bits} (h : isComplete n ws = true) (bits : Bits) :
    ∃ w ∈ ws, w <+: bits ∨ bits <+: w := by
  induction n generalizing ws bits with
  | zero => exact ⟨[], by simpa [isComplete] using h, .inl List.nil_prefix⟩
  | succ n ih =>
    rw [isComplete, Bool.or_eq_true, Bool.and_eq_true, List.contains_iff_mem] at h
    obtain hnil | ⟨hfalse, htrue⟩ := h
    · exact ⟨[], hnil, .inl List.nil_prefix⟩
    · cases bits with
      | nil =>
        obtain ⟨w, hw, -⟩ := ih hfalse []
        exact ⟨false :: w, cons_mem_of_mem_tailsAfter hw, .inr List.nil_prefix⟩
      | cons b bits =>
        have hbranch : isComplete n (tailsAfter b ws) = true := by cases b <;> assumption
        obtain ⟨w, hw, hc⟩ := ih hbranch bits
        refine ⟨b :: w, cons_mem_of_mem_tailsAfter hw, ?_⟩
        simpa only [List.cons_prefix_cons, true_and] using hc

/-- With the illegal zeros beside its code words, each table is complete. -/
theorem zeros_codeRows_isComplete (t : Table) :
    isComplete t.maxLen (List.replicate t.zeros false :: (codeRows t).map CodeRow.word) = true := by
  cases t <;> decide

/-! ## The illegal patterns -/

variable {t : Table} {bits : Bits}

/-- R95: EOL is a code word of each table. -/
theorem exists_eolRow (t : Table) : ∃ row ∈ codeRows t, row.word = encode .eol := by
  cases t <;> decide

theorem zeros_prefix_eol (t : Table) : List.replicate t.zeros false <+: encode .eol := by
  cases t <;> decide

/-- Every code word but EOL parts from the illegal zeros. -/
theorem word_apart_zeros (t : Table) : ∀ row ∈ codeRows t, row.word = encode .eol ∨
    ¬ List.replicate t.zeros false <+: row.word ∧ ¬ row.word <+: List.replicate t.zeros false := by
  cases t <;> decide

/-- The decoder's test for a code word cut short, where none stands in the bits. -/
theorem take_prefix_and_lt_iff {row : CodeRow} (hrow : row ∈ codeRows t) (hno : ¬ row.word <+: bits) :
    bits.take t.maxLen <+: row.word ∧ (bits.take t.maxLen).length < row.width ↔ bits <+: row.word := by
  have hwidth := codeRows_width t row hrow
  constructor
  · rintro ⟨hcut, hlt⟩
    rw [List.length_take] at hlt
    rwa [List.take_of_length_le (by omega)] at hcut
  · intro hcut
    have hlt : bits.length < row.width := by
      rw [← row.word_length]
      exact hcut.length_le.lt_of_ne fun hlen => hno (hcut.eq_of_length hlen ▸ List.prefix_rfl)
    rw [List.take_of_length_le (by omega)]
    exact ⟨hcut, hlt⟩

/-- R120: INVALID where no code word stands in the bits and the bits are not cut short inside one. -/
theorem decode_eq_invalid_iff :
    decode t bits = .invalid ↔ ∀ row ∈ codeRows t, ¬ row.word <+: bits ∧ ¬ bits <+: row.word := by
  by_cases hex : ∃ row ∈ codeRows t, row.word <+: bits
  · obtain ⟨row, hrow, hword⟩ := hex
    rw [decode_of_row hrow hword]
    exact iff_of_false nofun fun h => (h row hrow).1 hword
  · push Not at hex
    have hfind : (codeRows t).find? (fun row => row.word.isPrefixOf (bits.take t.maxLen)) = none :=
      List.find?_eq_none.2 fun row hrow h =>
        hex row hrow ((word_prefix_take hrow).1 (List.isPrefixOf_iff_prefix.1 h))
    have hcut : (codeRows t).any (fun row => (bits.take t.maxLen).isPrefixOf row.word &&
        decide ((bits.take t.maxLen).length < row.width)) = true ↔ ∃ row ∈ codeRows t, bits <+: row.word := by
      simp only [List.any_eq_true, Bool.and_eq_true, decide_eq_true_eq, List.isPrefixOf_iff_prefix]
      exact exists_congr fun row => and_congr_right fun hrow => take_prefix_and_lt_iff hrow (hex row hrow)
    rw [decode, hfind]
    dsimp only
    split
    · rename_i hany
      obtain ⟨row, hrow, h⟩ := hcut.1 hany
      exact iff_of_false nofun fun hall => (hall row hrow).2 h
    · rename_i hany
      exact iff_of_true rfl fun row hrow => ⟨hex row hrow, fun h => hany (hcut.2 ⟨row, hrow, h⟩)⟩

/-- R99 as bit strings. -/
theorem decode_eq_invalid_iff_zeros : decode t bits = .invalid ↔
    List.replicate t.zeros false <+: bits ∧ ¬ encode .eol <+: bits ∧ ¬ bits <+: encode .eol := by
  rw [decode_eq_invalid_iff]
  obtain ⟨eol, heol, hword⟩ := exists_eolRow t
  constructor
  · intro h
    have hapart := hword ▸ h eol heol
    refine ⟨?_, hapart⟩
    obtain ⟨w, hw, hc⟩ := exists_comparable_of_isComplete (zeros_codeRows_isComplete t) bits
    obtain rfl | hw := List.mem_cons.1 hw
    · exact hc.resolve_right fun hcut => hapart.2 (hcut.trans (zeros_prefix_eol t))
    · obtain ⟨row, hrow, rfl⟩ := List.mem_map.1 hw
      obtain ⟨hno, hncut⟩ := h row hrow
      exact absurd hc (not_or.2 ⟨hno, hncut⟩)
  · rintro ⟨hzeros, hapart⟩ row hrow
    obtain hw | ⟨hnz, hnw⟩ := word_apart_zeros t row hrow
    · rwa [hw]
    · refine ⟨fun hword => ?_, fun hcut => hnz (hzeros.trans hcut)⟩
      exact (List.prefix_or_prefix_of_prefix hzeros hword).elim hnz hnw

/-- R99 as windows that hold EOL. -/
theorem decode_window_eq_invalid_iff {n v : Nat} (hn : 12 ≤ n) (hv : v < 2 ^ n) :
    decode t (toBits n v) = .invalid ↔ v >>> (n - t.zeros) = 0 ∧ v >>> (n - 12) ≠ 1 := by
  have hz : List.replicate t.zeros false <+: toBits n v ↔ v >>> (n - t.zeros) = 0 := by
    have hzero : ofBits (List.replicate t.zeros false) = 0 := by cases t <;> rfl
    have hle : t.zeros ≤ 12 := by cases t <;> decide
    rw [prefix_toBits_iff (by rw [List.length_replicate]; omega) hv, hzero, List.length_replicate, eq_comm]
  have he : encode .eol <+: toBits n v ↔ v >>> (n - 12) = 1 :=
    (prefix_toBits_iff hn hv).trans eq_comm
  have hcut (h : toBits n v <+: encode .eol) : encode .eol <+: toBits n v :=
    h.eq_of_length_le (by rwa [toBits_length]) ▸ List.prefix_rfl
  rw [decode_eq_invalid_iff_zeros, hz, Ne, ← he, and_iff_left_of_imp (mt hcut)]

/-- Settles O5: a string that is neither a code word's nor cut short inside one begins with the zeros, because the
table is complete with them; every code word but EOL parts from the zeros. -/
theorem illegalPatterns : Obligations.IllegalPatterns := by
  refine ⟨fun t bits => decode_eq_invalid_iff_zeros, fun v hv => ?_, fun v hv => ?_, fun v hv => ?_⟩
  · rw [decode_window_eq_invalid_iff le_rfl hv, Table.zeros, Nat.shiftRight_eq_div_pow, Nat.shiftRight_eq_div_pow]
    omega
  · rw [decode_window_eq_invalid_iff (by decide) hv, Table.zeros, Nat.shiftRight_eq_div_pow, Nat.shiftRight_eq_div_pow]
    omega
  · rw [decode_window_eq_invalid_iff le_rfl hv, Table.zeros, Nat.shiftRight_eq_div_pow, Nat.shiftRight_eq_div_pow]
    omega

end Sys2Proof
end

section
/-! PROOFS. The run tables' values as operations (spec/30_encoding.md R110, spec/41_run_codes.md R140), the canonical
expansion of a run (R103), and a code word outside the table in force (R90). -/

namespace Sys2Proof.Machine

open Sys2Proof.Safety

/-! ## The values of the run tables -/

/-- What a run table's code word of value `v` and `w` bits does (R140). -/
def opOfValue (c : Color) (v w : Nat) : Op :=
  if v ≤ 63 then .term c v w else if v ≤ 2560 then .makeup c v w else .runEol c

theorem opOfValue_term {c : Color} {v w : Nat} (h : v ≤ 63) : opOfValue c v w = .term c v w := if_pos h

theorem opOfValue_makeup {c : Color} {v w : Nat} (h : 63 < v) (h' : v ≤ 2560) :
    opOfValue c v w = .makeup c v w := by
  rw [opOfValue, if_neg h.not_ge, if_pos h']

/-- R110, R140: a row's value says what its code word does. -/
theorem opOf_codeRow : ∀ c, ∀ row ∈ codeRows (Table.ofColor c),
    opOf row.instr = opOfValue c row.value row.width := by
  intro c; cases c <;> decide

/-- R110: a value is a terminating run's, a multiple of 64 up to 2560, or EOL_MARK; and no code word has one bit. -/
theorem codeRow_value : ∀ c, ∀ row ∈ codeRows (Table.ofColor c), 2 ≤ row.width ∧
    (row.value ≤ 63 ∨ (row.value % 64 = 0 ∧ 63 < row.value ∧ row.value ≤ 2560) ∨ row.value = eolMark) := by
  intro c; cases c <;> decide

theorem eq_ofColor_of_ne_mode {t : Table} (h : t ≠ .mode) : ∃ c, t = Table.ofColor c := by
  cases t with
  | white => exact ⟨.white, rfl⟩
  | black => exact ⟨.black, rfl⟩
  | mode => exact absurd rfl h

/-- Settles O6: the operation a value stands for has the row's class. -/
theorem runTableValues : Obligations.RunTableValues := by
  intro t ht row hrow
  obtain ⟨c, rfl⟩ := eq_ofColor_of_ne_mode ht
  obtain ⟨hwidth, hvalue⟩ := codeRow_value c row hrow
  have hformat : row.instr.format = (opOfValue c row.value row.width).format := by
    rw [← opOf_codeRow c row hrow, opOf_format]
  refine ⟨hwidth, codeRows_value _ row hrow, ?_⟩
  rw [hformat]
  obtain hv | ⟨hmod, hlow, hhigh⟩ | hv := hvalue
  · rw [opOfValue_term hv]
    simp [Op.format, hv]
  · rw [opOfValue_makeup hlow hhigh]
    have hk : ∃ k, 1 ≤ k ∧ k ≤ 40 ∧ row.value = 64 * k := ⟨row.value / 64, by omega, by omega, by omega⟩
    obtain hf | hf := makeup_format c row.value row.width <;> simpa [hf] using hk
  · simp [hv, eolMark, opOfValue, Op.format]

/-- Settles O9: each entry as `Gen` makes it (R105). -/
theorem romSampleEntries : Obligations.RomSampleEntries := by
  unfold Obligations.RomSampleEntries
  decide

/-! ## The canonical expansion -/

/-- The makeup values (R110): 64·k for k = 1..40. -/
abbrev MakeupValue (v : Nat) : Prop := v % 64 = 0 ∧ 64 ≤ v ∧ v ≤ 2560

/-- A list of values that expands a run of length `n`: makeup values, then n mod 64, and they sum to n (R103). -/
def Expands (n : Nat) (vs : List Nat) : Prop :=
  ∃ ms, vs = ms ++ [n % 64] ∧ (∀ v ∈ ms, MakeupValue v) ∧ ms.sum + n % 64 = n

theorem expandTail_expands {n : Nat} (h : n < 2624) : Expands n (expandTail n) := by
  unfold expandTail
  split
  · exact ⟨[64 * (n / 64)], rfl, by simp [MakeupValue]; omega, by simp; omega⟩
  · exact ⟨[], rfl, nofun, by simp; omega⟩

theorem Expands.cons {n : Nat} {vs : List Nat} (hn : 2560 ≤ n) (h : Expands (n - 2560) vs) :
    Expands n (2560 :: vs) := by
  obtain ⟨ms, rfl, hms, hsum⟩ := h
  have hmod : (n - 2560) % 64 = n % 64 := by omega
  rw [hmod] at hsum ⊢
  exact ⟨2560 :: ms, rfl, List.forall_mem_cons.2 ⟨by decide, hms⟩, by rw [List.sum_cons]; omega⟩

/-- R103's loop, with turns enough to come below 2624. -/
theorem expandLoop_expands {fuel n : Nat} (h : n < fuel + 2624) : Expands n (expandLoop fuel n) := by
  induction fuel generalizing n with
  | zero => exact expandTail_expands (by omega)
  | succ fuel ih =>
    rw [expandLoop]
    split
    · exact (ih (by omega)).cons (by omega)
    · exact expandTail_expands (by omega)

theorem expandValues_expands (n : Nat) : Expands n (expandValues n) := expandLoop_expands (by omega)

/-! ## The code words of an expansion -/

theorem codeOfRun_eq_some {c : Color} {v : Nat} {i : Instr} (h : codeOfRun c v = some i) :
    ∃ row ∈ codeRows (Table.ofColor c), row.value = v ∧ row.instr = i := by
  obtain ⟨row, hfind, hi⟩ := Option.map_eq_some_iff.1 h
  exact ⟨row, List.mem_of_find?_eq_some hfind, by simpa using List.find?_some hfind, hi⟩

theorem table_of_codeOfRun {c : Color} {v : Nat} {i : Instr} (h : codeOfRun c v = some i) :
    i.table = Table.ofColor c := by
  obtain ⟨row, hrow, -, rfl⟩ := codeOfRun_eq_some h
  exact codeRows_table _ row hrow

theorem opOf_codeOfRun {c : Color} {v : Nat} {i : Instr} (h : codeOfRun c v = some i) :
    opOf i = opOfValue c v (encode i).length := by
  obtain ⟨row, hrow, rfl, rfl⟩ := codeOfRun_eq_some h
  rw [opOf_codeRow c row hrow, ← codeRows_word _ row hrow, row.word_length]

theorem codeOfRun_isSome_of_term : ∀ c, ∀ v < 64, (codeOfRun c v).isSome := by
  intro c; cases c <;> decide

theorem codeOfRun_isSome_of_makeup (c : Color) {v : Nat} (h : MakeupValue v) : (codeOfRun c v).isSome := by
  have hcodes : ∀ c, ∀ k < 41, 0 < k → (codeOfRun c (64 * k)).isSome := by intro c; cases c <;> decide
  obtain ⟨hmod, hlow, hhigh⟩ := h
  obtain ⟨k, rfl⟩ := Nat.dvd_of_mod_eq_zero hmod
  exact hcodes c k (by omega) (by omega)

/-- Settles O51: R103's loop sums to n with values of the run tables, and each of those has a code word. -/
theorem expansionSums : Obligations.ExpansionSums := by
  intro c n
  obtain ⟨ms, hvs, hms, hsum⟩ := expandValues_expands n
  refine ⟨by rw [hvs, List.sum_append, List.sum_singleton, hsum], ⟨ms, hvs, hms⟩, ?_, fun i hi => ?_⟩
  · refine List.filterMap_length_eq_length.2 (hvs ▸ List.forall_mem_append.2 ⟨fun v hv => ?_, fun v hv => ?_⟩)
    · exact codeOfRun_isSome_of_makeup c (hms v hv)
    · rw [List.mem_singleton.1 hv]
      exact codeOfRun_isSome_of_term c _ (Nat.mod_lt n (by decide))
  · obtain ⟨v, -, hv⟩ := List.mem_filterMap.1 hi
    exact table_of_codeOfRun hv

/-! ## A code word outside the table in force -/

/-- Settles O38: each class tests that its table is in force before it does anything. -/
theorem outsideItsTableRefused : Obligations.OutsideItsTableRefused := by
  intro i s h
  rw [← opOf_table] at h
  rw [exec_eq_op]
  cases hop : opOf i <;> rw [hop] at h
  case term | makeup | runEol => exact if_neg (mt currentTable_eq_ofColor.2 h)
  case pass | horizontal | vertical | extension | modeEol => exact if_neg (mt currentTable_eq_mode.2 h)

end Sys2Proof.Machine
end

section
/-! PROOFS. The machine decodes the canonical code words of a run as one run (spec/30_encoding.md R103,
spec/41_run_codes.md R153, spec/43_scanline.md R202, R205). -/

namespace Sys2Proof.Machine

open Sys2Proof.Safety

variable {s t : State} {c : Color} {i : Instr} {p : List Instr} {n L v : Nat}

/-! ## Running the engine on code words -/

/-- R202: the step that finds a code word of the table in force at the cursor runs it. -/
theorem step_of_codeWord {rest : Bits} (hq : s.hostQueue = []) (ht : currentTable s = some i.table)
    (hr : remaining s = encode i ++ rest) : step s = exec i s := by
  rw [step_of_empty_queue hq]
  simp only [engineStep, fetch, ht, fetchIn, hr, decode_encode_append]

theorem run_succ_of_step {k : Nat} (h : step s = .next t) : core.run (k + 1) s = core.run k t := by
  have hstep : core.step s = .next t := h
  simp only [Host.Core.run, hstep]

theorem encodeAll_cons (i : Instr) (p : List Instr) : encodeAll (i :: p) = encode i ++ encodeAll p :=
  List.flatMap_cons

theorem encodeAll_singleton (i : Instr) : encodeAll [i] = encode i := List.append_nil _

/-! ## One run -/

/-- In RUN1D of colour `c`, with nothing queued, the code words `p` stand at the cursor; they and `L` more pixels in
the run in progress are within the bounds of R9 and within the line. -/
structure ReadsRun (c : Color) (p : List Instr) (L : Nat) (s : State) : Prop where
  phase : s.phase = .run1D
  color : s.color = c
  queue : s.hostQueue = []
  bits : encodeAll p <+: remaining s
  cur_fits : FitsCur (encodeAll p).length s
  acc_fits : FitsAcc (s.rs + (s.racc + L)) s
  room : RoomForRun s
  le_width : s.rs + (s.racc + L) ≤ s.width

/-- A run of `L` emitted in RUN1D after `w` bits, the line ended where it reaches W (R205). -/
def State.emitRun1D (L w : Nat) (s : State) : State :=
  let t := { s with cur := s.cur + w, racc := 0, runs := s.runs ++ [L], rs := s.rs + L, color := s.color.flip }
  if s.rs + L = s.width then ended .line t else t

/-- A makeup value `v` added to the run in progress after `w` bits (R142, R146). -/
def State.addMakeup (v w : Nat) (s : State) : State := { s.advance w with racc := s.racc + v }

theorem remaining_addMakeup (v w : Nat) (s : State) : remaining (s.addMakeup v w) = (remaining s).drop w :=
  List.drop_drop.symm

/-- The emitted run is the same, whether a makeup code is still to come or already in RACC. -/
theorem emitRun1D_addMakeup (s : State) (v L w b : Nat) :
    (s.addMakeup v w).emitRun1D ((s.addMakeup v w).racc + L) b = s.emitRun1D (s.racc + (v + L)) (w + b) := by
  simp only [State.emitRun1D, State.addMakeup, State.advance, Nat.add_assoc]

namespace ReadsRun

theorem runColor_eq (h : ReadsRun c p L s) : runColor s = some c := by
  rw [runColor, h.phase, h.color]

theorem step_eq (h : ReadsRun c (i :: p) L s) (hi : i.table = Table.ofColor c) : step s = exec i s := by
  obtain ⟨rest, hrest⟩ := h.bits
  rw [encodeAll_cons, List.append_assoc] at hrest
  exact step_of_codeWord h.queue (hi ▸ currentTable_eq_ofColor.2 h.runColor_eq) hrest.symm

theorem head_fits (h : ReadsRun c (i :: p) L s) : FitsCur (encode i).length s := by
  have hcur := h.cur_fits
  rw [encodeAll_cons, List.length_append] at hcur
  omega

/-- R141, R145, R205: the terminating code emits the run. -/
theorem step_term (h : ReadsRun c [i] n s) (hop : opOf i = .term c n (encode i).length) :
    step s = .next (s.emitRun1D (s.racc + n) (encode i).length) := by
  have hacc : FitsAcc (s.racc + n) s := (Nat.le_add_left ..).trans_lt h.acc_fits
  rw [h.step_eq (by rw [← opOf_table, hop]; rfl), exec_eq_op, hop]
  exact runTerm_eq_next.2 ⟨h.runColor_eq, h.head_fits, hacc, runComplete_eq_next.2 (.inl ⟨h.phase,
    runComplete1D_eq_next.2 ⟨h.acc_fits, .inr ⟨h.le_width, h.room, rfl⟩⟩⟩)⟩

/-- R142, R146: a makeup code adds its value to the run in progress. -/
theorem step_makeup (h : ReadsRun c (i :: p) (v + L) s) (hop : opOf i = .makeup c v (encode i).length) :
    step s = .next (s.addMakeup v (encode i).length) := by
  have hacc : FitsAcc (s.racc + v) s := by
    have hacc := h.acc_fits
    omega
  rw [h.step_eq (by rw [← opOf_table, hop]; rfl), exec_eq_op, hop]
  exact runMakeup_eq_next.2 ⟨h.runColor_eq, h.head_fits, hacc, rfl⟩

/-- The code words after a makeup code make up the rest of the run. -/
theorem after_makeup (h : ReadsRun c (i :: p) (v + L) s) :
    ReadsRun c p L (s.addMakeup v (encode i).length) where
  phase := h.phase
  color := h.color
  queue := h.queue
  bits := by
    obtain ⟨rest, hrest⟩ := h.bits
    rw [remaining_addMakeup, ← hrest, encodeAll_cons, List.append_assoc, List.drop_left]
    exact List.prefix_append _ _
  cur_fits := by
    have hcur := h.cur_fits
    rwa [encodeAll_cons, List.length_append, FitsCur, ← Nat.add_assoc] at hcur
  acc_fits := by
    have hacc := h.acc_fits
    rwa [← Nat.add_assoc s.racc] at hacc
  room := h.room
  le_width := by
    have hle := h.le_width
    rwa [← Nat.add_assoc s.racc] at hle

end ReadsRun

/-- R153 and R205: makeup codes and then a terminating code, run by the engine, are one run. -/
theorem run_makeups_term {ms : List Nat} (hms : ∀ v ∈ ms, MakeupValue v) (hn : n < 64)
    (hp : (ms ++ [n]).filterMap (codeOfRun c) = p) (h : ReadsRun c p (ms.sum + n) s) :
    core.run p.length s = .next (s.emitRun1D (s.racc + (ms.sum + n)) (encodeAll p).length) := by
  induction ms generalizing s p with
  | nil =>
    obtain ⟨i, hi⟩ := Option.isSome_iff_exists.1 (codeOfRun_isSome_of_term c n hn)
    obtain rfl : [i] = p := by simpa [hi] using hp
    rw [List.sum_nil, Nat.zero_add] at h ⊢
    have hop := (opOf_codeOfRun hi).trans (opOfValue_term (Nat.le_of_lt_succ hn))
    rw [List.length_singleton, encodeAll_singleton]
    exact run_succ_of_step (h.step_term hop)
  | cons v ms ih =>
    obtain ⟨hv, hms⟩ := List.forall_mem_cons.1 hms
    obtain ⟨i, hi⟩ := Option.isSome_iff_exists.1 (codeOfRun_isSome_of_makeup c hv)
    rw [List.cons_append, List.filterMap_cons_some hi] at hp
    subst hp
    obtain ⟨-, hlow, hhigh⟩ := hv
    have hop := (opOf_codeOfRun hi).trans (opOfValue_makeup hlow hhigh)
    rw [List.sum_cons, Nat.add_assoc] at h ⊢
    rw [List.length_cons, run_succ_of_step (h.step_makeup hop), ih hms rfl h.after_makeup,
      emitRun1D_addMakeup, encodeAll_cons, List.length_append]

/-- Settles O52: the expansion's makeup codes and its terminating code, run one by one. -/
theorem canonicalRunDecodes : Obligations.CanonicalRunDecodes := by
  intro c n s rest hphase hcolor hracc hqueue hbits hcur hacc hroom hwidth
  obtain ⟨ms, hvs, hms, hsum⟩ := expandValues_expands n
  have hreads : ReadsRun c (expandRun c n) (ms.sum + n % 64) s :=
    { phase := hphase, color := hcolor, queue := hqueue, bits := hbits ▸ List.prefix_append _ _, cur_fits := hcur
      acc_fits := by rwa [hsum, hracc, Nat.zero_add], room := hroom
      le_width := by rwa [hsum, hracc, Nat.zero_add] }
  rw [run_makeups_term hms (Nat.mod_lt n (by decide)) (by rw [expandRun, hvs]) hreads, hsum, hracc, Nat.zero_add]
  rw [State.emitRun1D, hcolor, ← hracc]
  rfl

end Sys2Proof.Machine
end

section
/-! PROOFS. The end-of-data rule (spec/40_table_walk.md R122) and the report of a failed walk (R124). -/

namespace Sys2Proof

variable {t : Table} {bits rest : Bits} {i : Instr}

/-! ## The end of the data -/

/-- The code words of a table are its rows' words. -/
theorem exists_codeRow_iff {P : Bits → Prop} :
    (∃ row ∈ codeRows t, P row.word) ↔ ∃ i : Instr, i.table = t ∧ P (encode i) := by
  constructor
  · rintro ⟨row, hrow, h⟩
    exact ⟨row.instr, codeRows_table t row hrow, codeRows_word t row hrow ▸ h⟩
  · rintro ⟨i, rfl, h⟩
    obtain ⟨row, hrow, -, hword⟩ := exists_codeRow i
    exact ⟨row, hrow, hword ▸ h⟩

theorem exists_codeRow_of_decode (h : decode t bits = .code i rest) : ∃ row ∈ codeRows t, row.word <+: bits := by
  obtain ⟨rfl, rfl⟩ := decode_eq_code_iff.1 h
  obtain ⟨row, hrow, -, hword⟩ := exists_codeRow i
  exact ⟨row, hrow, hword ▸ List.prefix_append _ _⟩

/-- Bits cut short inside a code word begin with no code word of the table. -/
theorem no_codeRow_of_cut {row : CodeRow} (hrow : row ∈ codeRows t) (hcut : bits <+: row.word)
    (hlt : bits.length < row.word.length) : ∀ other ∈ codeRows t, ¬ other.word <+: bits := by
  intro other hother hword
  have heq := codeRow_eq_of_prefix hother hrow (hword.trans hcut)
  exact hlt.not_ge (heq ▸ hword.length_le)

/-- Where no code word stands in the bits, the decoder answers EOD or INVALID. -/
theorem decode_eq_eod_iff_ne_invalid (hno : ∀ row ∈ codeRows t, ¬ row.word <+: bits) :
    decode t bits = .eod ↔ decode t bits ≠ .invalid := by
  cases h : decode t bits with
  | code i rest =>
    obtain ⟨row, hrow, hword⟩ := exists_codeRow_of_decode h
    exact absurd hword (hno row hrow)
  | eod => simp
  | invalid => simp

/-- R122: EOD where the bits are cut short inside a code word. -/
theorem decode_eq_eod_iff : decode t bits = .eod ↔
    ∃ row ∈ codeRows t, bits <+: row.word ∧ bits.length < row.word.length := by
  constructor
  · intro h
    have hno : ∀ row ∈ codeRows t, ¬ row.word <+: bits := fun row hrow hword => by
      rw [decode_of_row hrow hword] at h
      cases h
    have hvalid : decode t bits ≠ .invalid := by simp [h]
    rw [Ne, decode_eq_invalid_iff] at hvalid
    push Not at hvalid
    obtain ⟨row, hrow, hcut⟩ := hvalid
    have hcut := hcut (hno row hrow)
    exact ⟨row, hrow, hcut, hcut.length_le.lt_of_ne fun hlen =>
      hno row hrow (hcut.eq_of_length hlen ▸ List.prefix_rfl)⟩
  · rintro ⟨row, hrow, hcut, hlt⟩
    rw [decode_eq_eod_iff_ne_invalid (no_codeRow_of_cut hrow hcut hlt), Ne, decode_eq_invalid_iff]
    exact fun hall => (hall row hrow).2 hcut

/-- R122's closed form, where no code word stands in the bits. -/
theorem decode_eq_eod_iff_zeros (hno : ∀ row ∈ codeRows t, ¬ row.word <+: bits) :
    decode t bits = .eod ↔ bits <+: encode .eol ∨ ¬ List.replicate t.zeros false <+: bits := by
  obtain ⟨eol, heol, hword⟩ := exists_eolRow t
  have hnoEol : ¬ encode .eol <+: bits := hword ▸ hno eol heol
  rw [decode_eq_eod_iff_ne_invalid hno, Ne, decode_eq_invalid_iff_zeros]
  tauto

/-- Settles O4: EOD is neither a code word found nor INVALID, and the illegal patterns are those with the zeros. -/
theorem endOfDataRule : Obligations.EndOfDataRule := by
  have hcut (t : Table) (bits : Bits) : decode t bits = .eod ↔
      ∃ i : Instr, i.table = t ∧ bits <+: encode i ∧ bits.length < (encode i).length :=
    decode_eq_eod_iff.trans (exists_codeRow_iff (P := fun w => bits <+: w ∧ bits.length < w.length))
  refine ⟨hcut, fun t => ?_, fun t bits _ hno => ?_⟩
  · cases t <;> rfl
  · rw [← hcut]
    exact decode_eq_eod_iff_zeros fun row hrow hword =>
      hno row.instr (codeRows_table t row hrow) (codeRows_word t row hrow ▸ hword)

namespace Machine

open Safety

/-! ## The report of a failed walk -/

/-- Settles O25: the step raises the failed walk's error, and raising records it at the cursor. -/
theorem failedWalkReported : Obligations.FailedWalkReported := by
  intro s t ht hq
  have hstep {e : ErrInfo} (hf : fetchIn t s = .error e) : step s = .next (s.raise e) := by
    rw [step_of_empty_queue hq]
    exact engineStep_eq_next.2 (.inr (.inr ⟨e, by rw [fetch, ht]; exact hf, rfl⟩))
  refine ⟨fun hd hrun => ?_, fun hd hmode => ?_, fun hd => ?_⟩
  · have he : invalidError t s.cur = .invalidCode s.cur := by
      cases t with
      | white => rfl
      | black => rfl
      | mode => exact absurd rfl hrun
    exact hstep (by rw [fetchIn, hd, he])
  · subst hmode
    exact hstep (by rw [fetchIn, hd])
  · exact hstep (by rw [fetchIn, hd])

end Machine

end Sys2Proof
end

section
/-! PROOFS. The walk over the ROMs that `Gen` makes is the walk over the code set, and it stays inside its ROM
(spec/40_table_walk.md R120, R123, R125, R126). What both turn on: the walk's entry is that of the code word at the
head of the remaining bits, padded with zeros to MAXLEN. -/

namespace Sys2Proof

/-! ## Bit strings as numbers -/

theorem ofBits_lt (b : Bits) : ofBits b < 2 ^ b.length := by
  refine Nat.lt_pow_two_of_testBit _ fun k hk => ?_
  rw [testBit_ofBits]
  exact List.getD_eq_default _ _ (by rwa [List.length_reverse])

theorem toBits_mod (n v : Nat) : toBits n (v % 2 ^ n) = toBits n v := by
  refine List.ext_getElem? fun j => ?_
  by_cases hj : j < n
  · have hlt : n - 1 - j < n := by omega
    rw [getElem?_toBits _ hj, getElem?_toBits _ hj, Nat.testBit_mod_two_pow, decide_eq_true hlt, Bool.true_and]
  · rw [List.getElem?_eq_none (by rw [toBits_length]; omega), List.getElem?_eq_none (by rw [toBits_length]; omega)]

namespace Machine

variable {t : Table} {bits : Bits} {row : CodeRow} {e : TableEntry}

/-! ## The padded window -/

theorem padded_add (m k : Nat) (bits : Bits) : padded (m + k) bits = padded m bits ++ padded k (bits.drop m) := by
  induction m generalizing bits with
  | zero => rw [Nat.zero_add]; rfl
  | succ m ih =>
    rw [Nat.succ_add]
    cases bits with
    | nil => rw [padded, padded, ih, List.drop_nil, List.drop_nil]; rfl
    | cons b bs => rw [padded, padded, ih]; rfl

theorem take_prefix_padded (n : Nat) (bits : Bits) : bits.take n <+: padded n bits := by
  induction n generalizing bits with
  | zero => exact List.nil_prefix
  | succ n ih =>
    cases bits with
    | nil => exact List.nil_prefix
    | cons b bs => exact List.cons_prefix_cons.2 ⟨rfl, ih bs⟩

/-- Padding adds no string that ends within the real bits. -/
theorem prefix_padded_iff {w : Bits} {n : Nat} (hn : w.length ≤ n) (hw : w.length ≤ bits.length) :
    w <+: padded n bits ↔ w <+: bits := by
  constructor
  · intro h
    have htake := List.prefix_of_prefix_length_le h (take_prefix_padded n bits) (by rw [List.length_take]; omega)
    exact htake.trans (List.take_prefix _ _)
  · intro h
    exact (List.prefix_take_iff.2 ⟨h, hn⟩).trans (take_prefix_padded n bits)

theorem peekBits_toNat {n : Nat} (hn : n ≤ 16) (bits : Bits) : (peekBits n bits).toNat = ofBits (padded n bits) := by
  have hlt := ofBits_lt (padded n bits)
  rw [padded_length] at hlt
  exact Nat.mod_eq_of_lt (hlt.trans_le (Nat.pow_le_pow_right (by decide) hn))

/-- A peek of `n` bits is the padded bits as a number. -/
theorem toBits_peekBits {n : Nat} (hn : n ≤ 16) (bits : Bits) :
    toBits n (peekBits n bits).toNat = padded n bits := by
  have h := toBits_ofBits (padded n bits)
  rwa [padded_length, ← peekBits_toNat hn] at h

theorem peekBits_lt {n : Nat} (hn : n ≤ 16) (bits : Bits) : (peekBits n bits).toNat < 2 ^ n := by
  have h := ofBits_lt (padded n bits)
  rwa [padded_length, ← peekBits_toNat hn] at h

/-- R123: the first bits of a peek, and the follow-on bits `j`, are the peek. -/
theorem padded_append_toBits {m k : Nat} (hn : m + k ≤ 16) (bits : Bits) :
    padded m bits ++ toBits k ((peekBits (m + k) bits).toNat % 2 ^ k) = padded (m + k) bits := by
  have hsplit := toBits_peekBits hn bits
  rw [toBits_add, padded_add] at hsplit
  obtain ⟨-, htail⟩ := List.append_inj hsplit (by rw [toBits_length, padded_length])
  rw [toBits_mod, htail, padded_add]

/-! ## The entries -/

/-- The terminal entry that a walk over the bits `P` should end at: that of the code word `P` begins with, or
`(0, 0, 0)` where there is none (R104, R105). -/
inductive TerminalFor (t : Table) (P : Bits) : TableEntry → Prop
  | word {row : CodeRow} (hrow : row ∈ codeRows t) (hword : row.word <+: P) : TerminalFor t P (entryOf row)
  | invalid (hno : ∀ row ∈ codeRows t, ¬ row.word <+: P) : TerminalFor t P invalidEntry

theorem TerminalFor.nextState_eq_zero {P : Bits} (h : TerminalFor t P e) : e.nextState = 0 := by
  cases h <;> rfl

theorem isIndirect_eq_true_iff {rows : List CodeRow} {w i : Nat} : isIndirect rows w i = true ↔
    (∀ row ∈ rows, row.width ≤ w → ¬ row.word <+: toBits w i) ∧
      ∃ row ∈ rows, w < row.width ∧ toBits w i <+: row.word := by
  simp [isIndirect]

/-- R107: the seven zeros of the mode table are the only indirect node. -/
theorem eq_mode_zero_of_isIndirect {i : Nat} (hi : i < 2 ^ t.window) (h : isIndirect (codeRows t) t.window i = true) :
    t = .mode ∧ i = 0 := by
  cases t with
  | white | black =>
    obtain ⟨-, row, hrow, hwide, -⟩ := isIndirect_eq_true_iff.1 h
    exact absurd (codeRows_width _ row hrow) hwide.not_ge
  | mode =>
    have hmode : ∀ i < 2 ^ 7, isIndirect (codeRows .mode) 7 i = true → i = 0 := by decide
    exact ⟨rfl, hmode i hi h⟩

theorem window_le (t : Table) : t.window ≤ 16 := by cases t <;> decide

theorem window_add_followOn (t : Table) : t.window + t.followOn = t.maxLen := by cases t <;> rfl

theorem padded_window_prefix (t : Table) (bits : Bits) : padded t.window bits <+: padded t.maxLen bits := by
  rw [← window_add_followOn, padded_add]
  exact List.prefix_append _ _

/-- `Gen`'s search at a direct index passes over every row only where no short code word stands there. -/
theorem find?_window_eq_none_iff {w : Nat} {P : Bits} {rows : List CodeRow} :
    rows.find? (fun row => decide (row.width ≤ w) && row.word.isPrefixOf P) = none ↔
      ∀ row ∈ rows, row.width ≤ w → ¬ row.word <+: P := by
  simp [List.find?_eq_none]

/-- A terminal that `Gen` puts at a window is right for all the bits: no longer code word begins with the window. -/
theorem no_word_of_direct {P : Bits} {w i : Nat} (hi : toBits w i <+: P)
    (hshort : ∀ row ∈ codeRows t, row.width ≤ w → ¬ row.word <+: toBits w i)
    (hdirect : isIndirect (codeRows t) w i = false) : ∀ row ∈ codeRows t, ¬ row.word <+: P := by
  intro row hrow hword
  obtain hle | hlt := le_or_gt row.width w
  · exact hshort row hrow hle (List.prefix_of_prefix_length_le hword hi (by rwa [row.word_length, toBits_length]))
  · have hcut : toBits w i <+: row.word :=
      List.prefix_of_prefix_length_le hi hword (by rw [row.word_length, toBits_length]; exact hlt.le)
    rw [isIndirect_eq_true_iff.2 ⟨hshort, row, hrow, hlt, hcut⟩] at hdirect
    cases hdirect

/-- R107: the mode table's one indirect entry leads to the block at 128. -/
theorem romEntry_mode_zero : romEntry .mode 0 = some ⟨128, 0, 0⟩ := by decide

/-- R105: the entry at the window is right for the bits, or it is the mode table's indirect entry. -/
theorem romEntry_window (t : Table) (bits : Bits) : ∃ e, romEntry t (peekBits t.window bits).toNat = some e ∧
    (TerminalFor t (padded t.maxLen bits) e ∨
      t = .mode ∧ (peekBits t.window bits).toNat = 0 ∧ e = ⟨128, 0, 0⟩) := by
  have hlt := peekBits_lt (window_le t) bits
  have hpad : toBits t.window (peekBits t.window bits).toNat <+: padded t.maxLen bits :=
    toBits_peekBits (window_le t) bits ▸ padded_window_prefix t bits
  generalize (peekBits t.window bits).toNat = idx at hlt hpad
  by_cases hind : isIndirect (codeRows t) t.window idx = true
  · obtain ⟨rfl, rfl⟩ := eq_mode_zero_of_isIndirect hlt hind
    exact ⟨_, romEntry_mode_zero, .inr ⟨rfl, rfl, rfl⟩⟩
  rw [romEntry, genEntry, if_pos hlt]
  cases hfind : (codeRows t).find? fun row =>
      decide (row.width ≤ t.window) && row.word.isPrefixOf (toBits t.window idx) with
  | some row =>
    have hword := List.find?_some hfind
    rw [Bool.and_eq_true, List.isPrefixOf_iff_prefix] at hword
    exact ⟨_, rfl, .inl (.word (List.mem_of_find?_eq_some hfind) (hword.2.trans hpad))⟩
  | none =>
    have hno := no_word_of_direct hpad (find?_window_eq_none_iff.1 hfind) (Bool.eq_false_iff.2 hind)
    exact ⟨_, if_neg hind, .inl (.invalid hno)⟩

/-- R105: the entry a hop leads to is right for the seven zeros and the follow-on bits. -/
theorem romEntry_mode_hop {j : Nat} (hj : j < 32) :
    ∃ e, romEntry .mode (128 + j) = some e ∧ TerminalFor .mode (toBits 7 0 ++ toBits 5 j) e := by
  have hnodes : indirectNodes (codeRows .mode) 7 (2 ^ 7) = [0] := by decide
  have hblock : (128 + j - 2 ^ 7) / 2 ^ 5 = 0 := by omega
  have hoffset : (128 + j - 2 ^ 7) % 2 ^ 5 = j := by omega
  rw [romEntry, genEntry, Table.window, Table.followOn, if_neg (by omega), hnodes, hblock, hoffset]
  dsimp only [List.getElem?_cons_zero]
  cases hfind : (codeRows .mode).find? fun row => row.word.isPrefixOf (toBits 7 0 ++ toBits 5 j) with
  | some row =>
    have hword := List.find?_some hfind
    exact ⟨_, rfl, .word (List.mem_of_find?_eq_some hfind) (List.isPrefixOf_iff_prefix.1 hword)⟩
  | none =>
    rw [List.find?_eq_none] at hfind
    exact ⟨_, rfl, .invalid fun row hrow h => hfind row hrow (List.isPrefixOf_iff_prefix.2 h)⟩

/-- R125: where the walk's first entry is indirect, the hop stays inside the ROM and ends at the bits' terminal. -/
theorem romEntry_hopIndex (hzero : (peekBits Table.mode.window bits).toNat = 0) :
    hopIndex .mode bits 128 < romSize .mode ∧ ∃ e, romEntry .mode (hopIndex .mode bits 128) = some e ∧
      TerminalFor .mode (padded Table.mode.maxLen bits) e := by
  have hj : (peekBits (Table.mode.window + Table.mode.followOn) bits).toNat % 2 ^ Table.mode.followOn < 32 :=
    Nat.mod_lt _ (by decide)
  have hwhole := padded_append_toBits (m := Table.mode.window) (k := Table.mode.followOn) (by decide) bits
  rw [← toBits_peekBits (window_le .mode), hzero] at hwhole
  refine ⟨Nat.add_lt_add_left hj 128, ?_⟩
  rw [← window_add_followOn, ← hwhole]
  exact romEntry_mode_hop hj

theorem two_pow_window_le_romSize (t : Table) : 2 ^ t.window ≤ romSize t := by cases t <;> decide

/-- Settles O8: the window is an index, and the only indirect entry is the mode table's, whose hop is inside MROM. -/
theorem romIndicesInRange : Obligations.RomIndicesInRange := by
  intro t bits
  obtain ⟨e, he, hterm⟩ := romEntry_window t bits
  refine ⟨(peekBits_lt (window_le t) bits).trans_le (two_pow_window_le_romSize t), e, he, fun hnext => ?_⟩
  obtain hterm | ⟨rfl, hzero, rfl⟩ := hterm
  · exact absurd hterm.nextState_eq_zero hnext
  · obtain ⟨hlt, e', he', hterm⟩ := romEntry_hopIndex hzero
    exact ⟨hlt, e', he', hterm.nextState_eq_zero⟩

/-! ## The walk -/

/-- R123's loop ends at the terminal of the padded bits: a hop bound of 2 is enough. -/
theorem followHops_window (t : Table) (bits : Bits) :
    ∃ e e', romEntry t (peekBits t.window bits).toNat = some e ∧ followHops t bits 2 e = some e' ∧
      TerminalFor t (padded t.maxLen bits) e' := by
  obtain ⟨e, he, hterm | ⟨rfl, hzero, rfl⟩⟩ := romEntry_window t bits
  · exact ⟨e, e, he, if_pos hterm.nextState_eq_zero, hterm⟩
  · obtain ⟨-, e', he', hterm⟩ := romEntry_hopIndex hzero
    refine ⟨_, e', he, ?_, hterm⟩
    rw [followHops, if_neg (by decide)]
    simp only [he', followHops, hterm.nextState_eq_zero, if_true]

/-- What R123 answers from the terminal it ends at. -/
def answerAt (t : Table) (bits : Bits) (e : TableEntry) : WalkResult :=
  if e.bitWidth ≠ 0 then
    if e.bitWidth ≤ bits.length then .matched e.bitWidth e.runValue else .eod
  else if endOfData t bits then .eod
  else .invalid

theorem exists_romWalk_eq_answerAt (t : Table) (bits : Bits) :
    ∃ e, TerminalFor t (padded t.maxLen bits) e ∧ romWalk t bits = answerAt t bits e := by
  obtain ⟨e, e', he, hhops, hterm⟩ := followHops_window t bits
  refine ⟨e', hterm, ?_⟩
  rw [romWalk, he]
  dsimp only
  rw [hhops]
  rfl

theorem find?_of_row (hrow : row ∈ codeRows t) (hword : row.word <+: bits) :
    (codeRows t).find? (fun r => r.word.isPrefixOf (bits.take t.maxLen)) = some row := by
  have hsome : ((codeRows t).find? fun r => r.word.isPrefixOf (bits.take t.maxLen)).isSome :=
    List.find?_isSome.2 ⟨row, hrow, List.isPrefixOf_iff_prefix.2 ((word_prefix_take hrow).2 hword)⟩
  obtain ⟨other, hfind⟩ := Option.isSome_iff_exists.1 hsome
  obtain ⟨hother, hprefix⟩ := mem_and_prefix_of_find hfind
  rw [hfind, codeRow_eq_of_prefix_bits hother hrow hprefix hword]

theorem walk_of_row (hrow : row ∈ codeRows t) (hword : row.word <+: bits) :
    walk t bits = .matched row.width row.value := by
  rw [walk, find?_of_row hrow hword]

/-- R120: the walk fails as the decoder does, which makes the same search. -/
theorem walk_fails_as_decode : (walk t bits = .eod ↔ decode t bits = .eod) ∧
    (walk t bits = .invalid ↔ decode t bits = .invalid) := by
  unfold walk decode
  dsimp only
  cases (codeRows t).find? fun r => r.word.isPrefixOf (bits.take t.maxLen) with
  | some row => simp
  | none =>
    dsimp only
    split <;> simp

theorem walk_eq_eod_iff : walk t bits = .eod ↔ decode t bits = .eod := walk_fails_as_decode.1

theorem walk_eq_invalid_iff : walk t bits = .invalid ↔ decode t bits = .invalid := walk_fails_as_decode.2

theorem word_length_le_maxLen (hrow : row ∈ codeRows t) : row.word.length ≤ t.maxLen :=
  row.word_length ▸ codeRows_width t row hrow

/-- R122: the ROM walk's end-of-data test is right where no code word stands in the bits. -/
theorem endOfData_eq_true_iff (hno : ∀ row ∈ codeRows t, ¬ row.word <+: bits) :
    endOfData t bits = true ↔ decode t bits = .eod := by
  have hclosed : endOfData t bits = true ↔ bits.length < t.maxLen ∧ decode t bits = .eod := by
    rw [decode_eq_eod_iff_zeros hno]
    simp [endOfData, ← List.isPrefixOf_iff_prefix]
  refine hclosed.trans (and_iff_right_of_imp fun h => ?_)
  obtain ⟨row, hrow, -, hlt⟩ := decode_eq_eod_iff.1 h
  exact hlt.trans_le (word_length_le_maxLen hrow)

/-- R126, the INVALID branch: where no code word stands in the bits, R122's closed form decides. -/
theorem walk_of_no_row (hno : ∀ row ∈ codeRows t, ¬ row.word <+: bits) :
    walk t bits = if endOfData t bits then .eod else .invalid := by
  by_cases h : decode t bits = .eod
  · rw [if_pos ((endOfData_eq_true_iff hno).2 h), walk_eq_eod_iff.2 h]
  · have hinvalid := not_ne_iff.1 (mt (decode_eq_eod_iff_ne_invalid hno).2 h)
    rw [if_neg (mt (endOfData_eq_true_iff hno).1 h), walk_eq_invalid_iff.2 hinvalid]

theorem word_length_pos (hrow : row ∈ codeRows t) : 0 < row.word.length :=
  codeRows_word t row hrow ▸ encode_length_pos row.instr

theorem answerAt_entryOf (hrow : row ∈ codeRows t) : answerAt t bits (entryOf row) =
    if row.word.length ≤ bits.length then .matched row.width row.value else .eod := by
  have hpos := word_length_pos hrow
  rw [row.word_length] at hpos ⊢
  exact if_pos hpos.ne'

/-- R126: from the terminal of the padded bits, R123 answers what R120 says. -/
theorem answerAt_eq_walk (h : TerminalFor t (padded t.maxLen bits) e) : answerAt t bits e = walk t bits := by
  cases h with
  | @word row hrow hword =>
    have hmax := word_length_le_maxLen hrow
    rw [answerAt_entryOf hrow]
    obtain hle | hlt := le_or_gt row.word.length bits.length
    · rw [if_pos hle, walk_of_row hrow ((prefix_padded_iff hmax hle).1 hword)]
    · have hreal : bits <+: padded t.maxLen bits :=
        (prefix_padded_iff (hlt.le.trans hmax) le_rfl).2 List.prefix_rfl
      have hcut : bits <+: row.word := List.prefix_of_prefix_length_le hreal hword hlt.le
      rw [if_neg hlt.not_ge, walk_eq_eod_iff.2 (decode_eq_eod_iff.2 ⟨row, hrow, hcut, hlt⟩)]
  | invalid hno =>
    refine (walk_of_no_row fun row hrow hword => hno row hrow ?_).symm
    exact (prefix_padded_iff (word_length_le_maxLen hrow) hword.length_le).2 hword

theorem romWalk_eq_walk (t : Table) (bits : Bits) : romWalk t bits = walk t bits := by
  obtain ⟨e, hterm, hwalk⟩ := exists_romWalk_eq_answerAt t bits
  exact hwalk.trans (answerAt_eq_walk hterm)

/-- R109, R110: a value of a table stands for the code word of its row. -/
theorem instrOfValue_codeRow : ∀ t, ∀ row ∈ codeRows t, instrOfValue t row.value = some row.instr := by
  intro t; cases t <;> decide +kernel

/-- R126 with the value's classification. -/
theorem romDecode_eq_decode (t : Table) (bits : Bits) : romDecode t bits = decode t bits := by
  rw [romDecode, romWalk_eq_walk]
  cases h : decode t bits with
  | code i rest =>
    obtain ⟨row, hrow, hword⟩ := exists_codeRow_of_decode h
    rw [← h, walk_of_row hrow hword, decode_of_row hrow hword]
    dsimp only
    rw [instrOfValue_codeRow t row hrow]
  | eod => rw [walk_eq_eod_iff.2 h]
  | invalid => rw [walk_eq_invalid_iff.2 h]

/-- Settles O7: both walks answer from the code word at the head of the zero-padded bits, and its value names it. -/
theorem romWalkAgrees : Obligations.RomWalkAgrees :=
  fun t bits => ⟨romWalk_eq_walk t bits, romDecode_eq_decode t bits⟩

end Machine

end Sys2Proof
end

section
/-! PROOFS. The run codes as the listed code words (spec/41_run_codes.md R141 to R148): what a makeup code, a terminating
code and EOL answer in their table, makeup codes and a terminating code as one run (R153), and the step that runs the
code word decoded. -/

namespace Sys2Proof.Machine

open Sys2Proof.Safety

variable {s : State} {c : Color} {i : Instr} {n v w : Nat}

/-! ## The run colour -/

theorem flip_eq_iff {d : Color} : c.flip = d ↔ c = d.flip := by
  cases c <;> cases d <;> decide

/-- R140: the phases in which a run of colour `c` is read. -/
theorem runColor_eq_some_iff : runColor s = some c ↔
    (s.phase = .run1D ∨ s.phase = .hrun1) ∧ s.color = c ∨ s.phase = .hrun2 ∧ s.color = c.flip := by
  unfold runColor
  cases s.phase <;> simp [flip_eq_iff]

/-! ## One code word -/

/-- R142, R143, R146, R147. -/
theorem exec_makeup (hm : (i, c, v, w) ∈ makeupCodes) (hc : runColor s = some c) (hw : FitsCur w s)
    (hf : FitsAcc (s.racc + v) s) : exec i s = .next (s.addMakeup v w) := by
  rw [exec_eq_op, opOf_of_mem_makeupCodes _ hm]
  exact runMakeup_eq_next.2 ⟨hc, hw, hf, rfl⟩

/-- R141, R145, R205: the run stays within the line. -/
theorem exec_term_of_run1D (hm : (i, c, n, w) ∈ termCodes) (hp : s.phase = .run1D) (hc : s.color = c)
    (hw : FitsCur w s) (hf : FitsAcc (s.rs + (s.racc + n)) s) (hroom : RoomForRun s)
    (hle : s.rs + (s.racc + n) ≤ s.width) : exec i s = .next (s.emitRun1D (s.racc + n) w) := by
  have hcolor : runColor s = some c := runColor_eq_some_iff.2 (.inl ⟨.inl hp, hc⟩)
  have hacc : FitsAcc (s.racc + n) s := (Nat.le_add_left ..).trans_lt hf
  rw [exec_eq_op, opOf_of_mem_termCodes _ hm]
  exact runTerm_eq_next.2 ⟨hcolor, hw, hacc, runComplete_eq_next.2 (.inl ⟨hp,
    runComplete1D_eq_next.2 ⟨hf, .inr ⟨hle, hroom, rfl⟩⟩⟩)⟩

theorem opOf_of_mem_runEolCodes : ∀ x ∈ runEolCodes, opOf x.1 = .runEol x.2 := by decide

/-- Settles O32: in each of these phases the run colour is the code's. -/
theorem makeupAccumulates : Obligations.MakeupAccumulates :=
  fun _ _ _ _ hm _ hphase => exec_makeup hm (runColor_eq_some_iff.2 hphase)

/-- Settles O33: EOL consumes its bits and finishes, in a run phase with RACC cleared. -/
theorem eolEndsCommand : Obligations.EolEndsCommand := by
  refine ⟨fun i c hm s hphase hw => ?_, fun s hp hw => ?_⟩
  · rw [exec_eq_op, opOf_of_mem_runEolCodes _ hm]
    exact runEol_eq_next.2 ⟨runColor_eq_some_iff.2 hphase, hw, rfl⟩
  · rw [exec_eq_op]
    exact modeEol_eq_next.2 ⟨hp, hw, rfl⟩

/-! ## Makeup codes and one terminating code -/

theorem execAll_append (p q : List Instr) (s : State) :
    execAll (p ++ q) s = andThen (execAll p s) (execAll q) := by
  induction p generalizing s with
  | nil => rfl
  | cons i p ih =>
    simp only [List.cons_append, execAll]
    cases exec i s with
    | next t => exact ih t
    | fault x => rfl
    | refused x => rfl

theorem execAll_singleton (i : Instr) (s : State) : execAll [i] s = exec i s := by
  simp only [execAll]
  cases exec i s <;> rfl

theorem addMakeup_addMakeup (v w v' w' : Nat) (s : State) :
    (s.addMakeup v w).addMakeup v' w' = s.addMakeup (v + v') (w + w') := by
  simp only [State.addMakeup, State.advance, Nat.add_assoc]

theorem fitsCur_addMakeup {w' : Nat} : FitsCur w' (s.addMakeup v w) ↔ FitsCur (w + w') s := by
  simp only [FitsCur, State.addMakeup, State.advance, Nat.add_assoc]

theorem addMakeup_racc_add (v w L : Nat) (s : State) : (s.addMakeup v w).racc + L = s.racc + (v + L) :=
  Nat.add_assoc ..

section Makeups

variable {ms : List (Instr × Nat × Nat)} (hms : ∀ m ∈ ms, (m.1, c, m.2.1, m.2.2) ∈ makeupCodes)

include hms

/-- Makeup codes one after another, in any run phase, add their values and widths. -/
theorem execAll_makeups (hc : runColor s = some c) (hw : FitsCur (ms.map fun m => m.2.2).sum s)
    (hf : FitsAcc (s.racc + (ms.map fun m => m.2.1).sum) s) :
    execAll (ms.map fun m => m.1) s =
      .next (s.addMakeup (ms.map fun m => m.2.1).sum (ms.map fun m => m.2.2).sum) := by
  induction ms generalizing s with
  | nil => rfl
  | cons m ms ih =>
    obtain ⟨hm, hms⟩ := List.forall_mem_cons.1 hms
    simp only [List.map_cons, List.sum_cons] at hw hf ⊢
    have hexec : exec m.1 s = .next (s.addMakeup m.2.1 m.2.2) := exec_makeup hm hc (by omega) (by omega)
    rw [← addMakeup_racc_add m.2.1 m.2.2] at hf
    rw [execAll, hexec, andThen_next, ← addMakeup_addMakeup]
    exact ih hms hc (fitsCur_addMakeup.2 hw) hf

/-- R153: makeup codes and then a terminating code emit one run, what stood in RACC before them included. -/
theorem execAll_makeups_term (hi : (i, c, n, w) ∈ termCodes) (hp : s.phase = .run1D) (hc : s.color = c)
    (hw : FitsCur ((ms.map fun m => m.2.2).sum + w) s)
    (hf : FitsAcc (s.rs + (s.racc + ((ms.map fun m => m.2.1).sum + n))) s) (hroom : RoomForRun s)
    (hle : s.rs + (s.racc + ((ms.map fun m => m.2.1).sum + n)) ≤ s.width) :
    execAll (ms.map (fun m => m.1) ++ [i]) s =
      .next (s.emitRun1D (s.racc + ((ms.map fun m => m.2.1).sum + n)) ((ms.map fun m => m.2.2).sum + w)) := by
  have hcolor : runColor s = some c := runColor_eq_some_iff.2 (.inl ⟨.inl hp, hc⟩)
  rw [execAll_append, execAll_makeups hms hcolor (by omega) (by omega), andThen_next, execAll_singleton,
    ← emitRun1D_addMakeup]
  rw [← addMakeup_racc_add _ (ms.map fun m => m.2.2).sum] at hf hle
  exact exec_term_of_run1D hi hp hc (fitsCur_addMakeup.2 hw) hf hroom hle

end Makeups

/-- R205: a run that ends before W leaves the line open. -/
theorem emitRun1D_of_lt {L : Nat} (h : s.rs + L < s.width) (w : Nat) : s.emitRun1D L w =
    { s with cur := s.cur + w, racc := 0, runs := s.runs ++ [L], rs := s.rs + L, color := s.color.flip } :=
  if_neg h.ne

/-- Settles O50: with RACC 0 the one run is the sum of the values, and it ends before W. -/
theorem runIsMakeupsPlusTerminating : Obligations.RunIsMakeupsPlusTerminating := by
  intro c ms i n w s hms hi hp hc hracc L bits hw hf hroom hlt
  have hlen : s.racc + L = L := by rw [hracc, Nat.zero_add]
  rw [execAll_makeups_term hms hi hp hc hw (hlen.symm ▸ hf) hroom (hlen.symm ▸ hlt.le), hlen, emitRun1D_of_lt hlt,
    hc, hracc]

/-! ## The step -/

/-- R202: the engine runs the code word that the table in force decodes at the cursor. -/
theorem engineStep_of_decode {t : Table} {rest : Bits} (ht : currentTable s = some t)
    (hd : decode t (remaining s) = .code i rest) : engineStep s = exec i s := by
  simp only [engineStep, fetch, ht, fetchIn, hd]

/-- Settles O24: neither the table in force nor the bits at the cursor depend on the queue. -/
theorem stepRunsDecoded : Obligations.StepRunsDecoded := by
  refine fun s t i rest ht hd => ⟨fun hq => ?_, fun q hq => ?_⟩
  · rw [step_of_empty_queue hq, engineStep_of_decode ht hd]
  · rw [step_of_yield hq, ← popAction_of_queue hq]
    exact engineStep_of_decode (s := s.popAction) ht hd

end Sys2Proof.Machine
end

section
/-! PROOFS. The reference line (spec/42_mode_codes.md R170 to R173): the colour of a reference pixel, the changing
elements, and the elements b1 and b2. -/

namespace Sys2Proof.Machine

open Sys2Proof.Safety

variable {c : Color} {ref : List Nat} {i j : Nat}

/-! ## Pixels -/

theorem color_flip_flip (c : Color) : c.flip.flip = c := by cases c <;> rfl

theorem pixelFrom_cons_of_lt {r : Nat} (h : i < r) : pixelFrom c (r :: ref) i = c := if_pos h

theorem pixelFrom_cons_of_le {r : Nat} (h : r ≤ i) : pixelFrom c (r :: ref) i = pixelFrom c.flip ref (i - r) :=
  if_neg h.not_gt

theorem refpx_natCast (ref : List Nat) (i : Nat) : refpx ref (i : Int) = pixelFrom .white ref i :=
  if_neg (Int.natCast_nonneg i).not_gt

/-- R170: the run that holds pixel `i` is the first whose end is past `i`, and every run flips the colour. -/
theorem pixelFrom_of_least (hi : i < (ref.take (j + 1)).sum) (hleast : ∀ j' < j, (ref.take (j' + 1)).sum ≤ i) :
    pixelFrom c ref i = if j % 2 = 0 then c else c.flip := by
  induction ref generalizing c i j with
  | nil => simp at hi
  | cons r ref ih =>
    simp only [List.take_succ_cons, List.sum_cons] at hi hleast
    cases j with
    | zero => exact pixelFrom_cons_of_lt (by simpa using hi)
    | succ j =>
      have hr : r ≤ i := (Nat.le_add_right ..).trans (hleast 0 j.succ_pos)
      have hleast' : ∀ j' < j, (ref.take (j' + 1)).sum ≤ i - r := fun j' hj =>
        Nat.le_sub_of_add_le' (hleast (j' + 1) (Nat.succ_lt_succ hj))
      rw [pixelFrom_cons_of_le hr, ih (by omega) hleast', color_flip_flip]
      obtain hj | hj := Nat.mod_two_eq_zero_or_one j <;> simp [hj, Nat.succ_mod_two_eq_zero_iff]

theorem length_pixelsFrom (c : Color) (ref : List Nat) : (pixelsFrom c ref).length = ref.sum := by
  induction ref generalizing c with
  | nil => rfl
  | cons r ref ih => rw [pixelsFrom, List.length_append, List.length_replicate, ih, List.sum_cons]

/-- R11, R170: within the line, the colour of pixel `i` is the `i`-th pixel of the run list. -/
theorem getElem?_pixelsFrom (h : i < ref.sum) : (pixelsFrom c ref)[i]? = some (pixelFrom c ref i) := by
  induction ref generalizing c i with
  | nil => simp at h
  | cons r ref ih =>
    rw [pixelsFrom]
    obtain hi | hi := Nat.lt_or_ge i r
    · rw [pixelFrom_cons_of_lt hi, List.getElem?_append_left (by rwa [List.length_replicate]),
        List.getElem?_replicate_of_lt hi]
    · rw [List.sum_cons] at h
      rw [pixelFrom_cons_of_le hi, List.getElem?_append_right (by rwa [List.length_replicate]),
        List.length_replicate, ih (by omega)]

/-- Settles O53: each run flips the colour, in the list of runs as in their pixels. -/
theorem referencePixels : Obligations.ReferencePixels :=
  ⟨fun ref i _ hi hleast => (refpx_natCast ref i).trans (pixelFrom_of_least hi hleast),
    fun ref i h => (getElem?_pixelsFrom h).trans (congrArg some (refpx_natCast ref i).symm),
    length_pixelsFrom .white, fun _ => rfl⟩

/-! ## Changing elements -/

/-- R171. -/
theorem mem_changingElements_iff {width : Nat} : i ∈ changingElements ref width ↔
    i < width ∧ refpx ref (i : Int) ≠ refpx ref ((i : Int) - 1) := by
  rw [changingElements, List.mem_filter, List.mem_range, bne_iff_ne]

theorem changingElements_pairwise_lt (ref : List Nat) (width : Nat) :
    (changingElements ref width).Pairwise (· < ·) :=
  List.pairwise_lt_range.filter _

/-- R171: two runs about a zero-length run are one run. -/
theorem pixelFrom_zero_run (a b : List Nat) (x y : Nat) :
    pixelFrom c (a ++ x :: 0 :: y :: b) i = pixelFrom c (a ++ (x + y) :: b) i := by
  induction a generalizing c i with
  | nil =>
    simp only [List.nil_append, pixelFrom, color_flip_flip, Nat.not_lt_zero, if_false, Nat.sub_zero, Nat.sub_sub]
    obtain hx | hx := Nat.lt_or_ge i x
    · rw [if_pos hx, if_pos (by omega)]
    · simp only [hx.not_gt, if_false, Nat.sub_lt_iff_lt_add' hx]
  | cons r a ih => simp only [List.cons_append, pixelFrom, ih]

/-- Settles O54: the elements are read from the pixels, which a zero-length run leaves as they are. -/
theorem changingElements_spec : Obligations.ChangingElements := by
  refine ⟨fun ref W i => mem_changingElements_iff, fun a b x y W => ?_⟩
  have hpx : refpx (a ++ x :: 0 :: y :: b) = refpx (a ++ (x + y) :: b) := by
    funext k
    simp only [refpx, pixelFrom_zero_run]
  rw [changingElements, changingElements, hpx]

/-! ## b1 and b2 -/

/-- In a rising list, the first element that satisfies `p` is the least that does. -/
theorem le_of_find?_eq_some {l : List Nat} {p : Nat → Bool} {m : Nat} (hl : l.Pairwise (· < ·))
    (hm : l.find? p = some m) (hi : i ∈ l) (hp : p i = true) : m ≤ i := by
  obtain ⟨-, front, back, rfl, hfront⟩ := List.find?_eq_some_iff_append.1 hm
  obtain hi | hi := List.mem_append.1 hi
  · exact absurd hp (by simpa using hfront i hi)
  · obtain rfl | hi := List.mem_cons.1 hi
    · exact le_rfl
    · exact (List.rel_of_pairwise_cons (List.pairwise_append.1 hl).2.1 hi).le

/-- What a search of a rising list answers: the least element that satisfies `P`, or the default where none does. -/
theorem find?_getD_least {l : List Nat} {p : Nat → Bool} {P : Nat → Prop} (hl : l.Pairwise (· < ·))
    (hP : ∀ i, p i = true ↔ P i) (d : Nat) :
    (∀ i ∈ l, P i → (l.find? p).getD d ≤ i) ∧
    ((l.find? p).getD d ∈ l ∧ P ((l.find? p).getD d) ∨ (l.find? p).getD d = d ∧ ∀ i ∈ l, ¬ P i) := by
  simp only [← hP]
  cases hf : l.find? p with
  | none =>
    have hnone := List.find?_eq_none.1 hf
    exact ⟨fun i hi hp => absurd hp (hnone i hi), .inr ⟨rfl, hnone⟩⟩
  | some m =>
    exact ⟨fun i hi => le_of_find?_eq_some hl hf hi, .inl ⟨List.mem_of_find?_eq_some hf, List.find?_some hf⟩⟩

/-- Settles O55: b1 is found by a search of the rising elements. -/
theorem b1IsLeast : Obligations.B1IsLeast := by
  intro s
  obtain ⟨hle, hmem⟩ := find?_getD_least
    (p := fun (i : Nat) => decide (s.a0 < (i : Int)) && (refpx s.refLine i != s.color))
    (P := fun (i : Nat) => s.a0 < (i : Int) ∧ refpx s.refLine i ≠ s.color)
    (changingElements_pairwise_lt s.refLine s.width) (by simp) s.width
  exact ⟨fun i hi hright hcolor => hle i hi ⟨hright, hcolor⟩, hmem⟩

/-- R173: A0, b1, b2 and W in order, b2 = W where b1 is. -/
theorem b1_b2_order (s : State) :
    (s.a0 < (b1 s : Int) ∧ b1 s ≤ b2 s ∧ b2 s ≤ s.width) ∨ (b1 s = s.width ∧ b2 s = s.width) := by
  obtain h1 | ⟨h1, hlt⟩ := b1_cases s
  · obtain h2 | h2 := b2_cases s
    · exact .inr ⟨h1, h2⟩
    · omega
  · obtain h2 | h2 := b2_cases s
    · exact .inl ⟨h1, by omega, h2.le⟩
    · exact .inl ⟨h1, h2.1.le, h2.2.le⟩

/-- Settles O56: b2 is found by the same search as b1, in the elements right of it. -/
theorem b2FollowsB1 : Obligations.B2FollowsB1 := by
  intro s
  obtain ⟨hle, hmem⟩ := find?_getD_least (p := fun i => decide (b1 s < i)) (P := fun i => b1 s < i)
    (changingElements_pairwise_lt s.refLine s.width) (by simp) s.width
  exact ⟨hle, hmem, b1_b2_order s⟩

end Sys2Proof.Machine
end

section
/-! PROOFS. The mode codes (spec/42_mode_codes.md R175 to R184): the state that Pass, Horizontal, the
extension code and the vertical codes answer, the line check after them included (spec/43_scanline.md R208). -/

namespace Sys2Proof.Machine

open Sys2Proof.Safety

variable {s : State}

/-! ## The line check -/

/-- R208: before W the line goes on. -/
theorem lineCheck2D_of_ne (h : s.a0 ≠ (s.width : Int)) : lineCheck2D s = .next s :=
  lineCheck2D_eq_next.2 (.inl ⟨h, rfl⟩)

/-- R208: at W a pending run is emitted, and the line ends. -/
theorem lineCheck2D_of_pending (h : s.a0 = (s.width : Int)) (hrs : s.rs < s.width) (hroom : RoomForRun s) :
    lineCheck2D s = .next (ended .line { s with runs := s.runs ++ [s.width - s.rs], rs := s.width }) :=
  lineCheck2D_eq_next.2 (.inr (.inl ⟨h, hrs, hroom, rfl⟩))

/-- R208: at W with no run pending the line ends. -/
theorem lineCheck2D_of_complete (h : s.a0 = (s.width : Int)) (hrs : s.width ≤ s.rs) :
    lineCheck2D s = .next (ended .line s) :=
  lineCheck2D_eq_next.2 (.inr (.inr ⟨h, hrs, rfl⟩))

/-! ## Pass, Horizontal, the extension code -/

/-- Settles O34: the three ends of the line check at b2. -/
theorem passMovesA0 : Obligations.PassMovesA0 := by
  intro s hp hw hf hroom
  rw [exec_eq_op]
  refine passMode_eq_next.2 ⟨hp, hw, hf, ?_⟩
  split
  case isTrue hb =>
    have ha0 : (b2 s : Int) = (s.width : Int) := congrArg Nat.cast hb
    split
    case isTrue hrs => exact lineCheck2D_of_pending ha0 hrs (hroom hb hrs)
    case isFalse hrs => exact lineCheck2D_of_complete ha0 (not_lt.1 hrs)
  case isFalse hb => exact lineCheck2D_of_ne (mt Int.natCast_inj.1 hb)

/-- Settles O35: Horizontal's one next state. -/
theorem horizontalBegins : Obligations.HorizontalBegins :=
  fun s hp hw => (exec_eq_op .h s).trans (horizontalMode_eq_next.2 ⟨hp, hw, rfl⟩)

/-- Settles O37: raising the error records it at the cursor. -/
theorem extensionRefused : Obligations.ExtensionRefused :=
  fun s hp => (exec_eq_op .ext s).trans (extensionMode_eq_next.2 ⟨hp, rfl⟩)

/-! ## Vertical -/

/-- Settles O36: where the run up to a1 is emitted, RS is a1, so the line check finds no run pending. -/
theorem verticalModes : Obligations.VerticalModes := by
  intro i k w hm s hp hrs hfits hroom
  rw [exec_eq_op, opOf_of_mem_verticalCodes _ hm]
  refine verticalMode_eq_next.2 ⟨hp, ?_⟩
  dsimp only
  split
  case isTrue hleft => exact .inl ⟨hleft, rfl⟩
  case isFalse hleft =>
    have ha : max s.a0 0 ≤ (b1 s : Int) + k := not_lt.1 hleft
    obtain ⟨hw, hf⟩ := hfits ha
    refine .inr ⟨ha, hw, hf, ?_⟩
    split
    case isTrue hpast => exact .inl ⟨hpast, rfl⟩
    case isFalse hpast =>
      have hle : (b1 s : Int) + k ≤ (s.width : Int) := not_lt.1 hpast
      refine .inr ⟨hle, by omega, hroom ha hle, ?_⟩
      split
      case isTrue hend =>
        have hdone : s.width ≤ ((b1 s : Int) + k).toNat := by omega
        exact lineCheck2D_of_complete hend hdone
      case isFalse hend => exact lineCheck2D_of_ne hend

end Sys2Proof.Machine
end

section
/-! PROOFS. A command and its host (spec/43_scanline.md R200 to R202, R215, R216): what an admitted START answers, the
engine at rest, and who takes it out of IDLE and DONE. -/

namespace Sys2Proof.Machine

variable {s t : State}

/-! ## At rest -/

/-- R202, R271. -/
theorem engineStep_of_not_busy (hb : s.busy = false) : engineStep s = .next s :=
  engineStep_eq_next.2 (.inl ⟨fetch_eq_waiting_iff.2 hb, rfl⟩)

theorem eq_of_engineStep_not_busy (hb : s.busy = false) (h : engineStep s = .next t) : t = s := by
  rw [engineStep_of_not_busy hb] at h
  exact (Host.Outcome.next.inj h).symm

/-- Settles O26: there is nothing to fetch in IDLE and DONE, with a yield taken off the queue or none. -/
theorem idleChangesNothing : Obligations.IdleChangesNothing := by
  intro s hp
  have hb : s.busy = false := busy_eq_false_iff.2 hp
  refine ⟨fun hq => ?_, fun q hq => ?_⟩
  · rw [step_of_empty_queue hq, engineStep_of_not_busy hb]
  · rw [step_of_yield hq, ← popAction_of_queue hq]
    exact engineStep_of_not_busy (s := s.popAction) hb

/-! ## START -/

theorem readCell_latchedRef1D {i v : Nat} (hi : i < s.inRefCount) (hv : readCell i s.mem.inRef = some v) :
    (latchedRef1D s)[i]? = some v := by
  simp [latchedRef1D, List.getElem?_range hi, hv]

theorem length_latchedRef1D (s : State) : (latchedRef1D s).length = s.inRefCount := by
  rw [latchedRef1D, List.length_map, List.length_range]

/-- R200 in a 2D mode: the counted cells are a reference line that is well formed for W. -/
theorem strobeStart_of_twoD {m : CodingMode} {ref : List Nat} (hok : startRefusal s = none)
    (hm : s.inMode = 1#2 ∧ m = .group3_2D ∨ s.inMode = 2#2 ∧ m = .group4) (hwritten : s.inWritten.refCount = true)
    (href : readCells s.inRefCount 0 s.mem.inRef = some ref) (hne : ref ≠ []) (hsum : ref.sum = s.inWidth) :
    strobeStart s = .next (s.startCommand m ref) := by
  have hstart : start2D m s = .next (s.startCommand m ref) :=
    start2D_eq_next.2 ⟨hwritten, ref, href, refWellFormed_iff.2 ⟨hne, hsum⟩, rfl⟩
  obtain ⟨hmode, rfl⟩ | ⟨hmode, rfl⟩ := hm
  · exact strobeStart_eq_next.2 ⟨hok, .inr (.inl ⟨hmode, hstart⟩)⟩
  · exact strobeStart_eq_next.2 ⟨hok, .inr (.inr ⟨hmode, hstart⟩)⟩

theorem step_of_start {rest : List HostAction} (hq : s.hostQueue = .start :: rest) :
    step s = strobeStart s.popAction := step_of_hostAction hq nofun

/-- Settles O17: START's conditions are met, so it begins the command of its mode. -/
theorem startBeginsCommand : Obligations.StartBeginsCommand := by
  intro s rest hq hp hcur hwidth hmode hpos hmax hfits hstart hlen hcount
  have hok : startRefusal s.popAction = none :=
    startRefusal_eq_none.2 ⟨hp, ⟨hcur, hwidth, hmode⟩, ⟨hpos, hmax, hfits⟩, hstart, hlen, hcount⟩
  rw [step_of_start hq]
  refine ⟨fun h0 => ⟨latchedRef1D s.popAction, length_latchedRef1D _, fun i v =>
    readCell_latchedRef1D (s := s.popAction), ?_⟩, fun ref mode hwritten href hne hsum hm => ?_⟩
  · rw [strobeStart_eq_next.2 ⟨hok, .inl ⟨h0, rfl⟩⟩, popAction_of_queue hq]
    rfl
  · rw [strobeStart_of_twoD hok hm hwritten href hne hsum, popAction_of_queue hq]
    obtain ⟨-, rfl⟩ | ⟨-, rfl⟩ := hm <;> rfl

/-! ## Leaving IDLE and DONE -/

/-- R215, R216, R270: a host action that is no START keeps PHASE or leads to IDLE, ACK from DONE only. -/
theorem hostAct_phase {a : HostAction} (h : hostAct a s = .next t) (ha : a ≠ .start) : t.phase = s.phase ∨
    t.phase = .idle ∧ (a = .ack ∧ s.phase = .done ∨ a = .abort ∨ a = .reset) := by
  cases a with
  | yield =>
    cases h
    exact .inl rfl
  | write r v =>
    obtain ⟨-, ⟨-, -, rfl⟩ | ⟨-, rfl⟩ | ⟨-, -, rfl⟩ | ⟨-, -, rfl⟩ | ⟨i, -, -, rfl⟩⟩ := hostWrite_eq_next.1 h <;>
      exact .inl rfl
  | read r =>
    obtain ⟨-, -, rfl⟩ := hostRead_eq_next.1 h
    exact .inl rfl
  | start => exact absurd rfl ha
  | ack =>
    obtain ⟨hp, rfl⟩ := strobeAck_eq_next.1 h
    exact .inr ⟨rfl, .inl ⟨rfl, hp⟩⟩
  | abort =>
    cases h
    exact .inr ⟨rfl, .inr (.inl rfl)⟩
  | reset =>
    cases h
    exact .inr ⟨rfl, .inr (.inr rfl)⟩
  | loadStream bytes n =>
    obtain ⟨-, rfl⟩ := loadStream_eq_next.1 h
    exact .inl rfl

/-- A step that leaves a phase at rest is a host action. -/
theorem exists_hostAct_of_leaves_rest (hb : s.busy = false) (h : step s = .next t) (hne : t.phase ≠ s.phase) :
    ∃ a rest, s.hostQueue = a :: rest ∧ hostAct a s.popAction = .next t := by
  cases hq : s.hostQueue with
  | nil =>
    rw [step_of_empty_queue hq] at h
    exact absurd (congrArg State.phase (eq_of_engineStep_not_busy hb h)) hne
  | cons a rest =>
    by_cases ha : a = .yield
    · subst ha
      rw [step_of_yield hq] at h
      exact absurd (congrArg State.phase (eq_of_engineStep_not_busy (s := s.popAction) hb h)) hne
    · rw [step_of_hostAction hq ha] at h
      exact ⟨a, rest, rfl, h⟩

/-- Settles O27: an action that is no START leads to IDLE where it changes PHASE. -/
theorem onlyTheHostLeavesDone : Obligations.OnlyTheHostLeavesDone := by
  refine fun s t h => ⟨fun hp hne => ?_, fun hp hne => ?_⟩
  · obtain ⟨a, rest, hq, hact⟩ :=
      exists_hostAct_of_leaves_rest (busy_eq_false_iff.2 (.inr hp)) h (by rwa [hp])
    refine ⟨a, rest, hq, or_iff_not_imp_left.2 fun ha => ?_⟩
    obtain hsame | ⟨-, hact⟩ := hostAct_phase hact ha
    · exact absurd (hsame.trans hp) hne
    · exact hact.imp_left And.left
  · obtain ⟨a, rest, hq, hact⟩ :=
      exists_hostAct_of_leaves_rest (busy_eq_false_iff.2 (.inl hp)) h (by rwa [hp])
    obtain rfl : a = .start := by
      by_contra ha
      obtain hsame | ⟨hidle, -⟩ := hostAct_phase hact ha
      · exact hne (hsame.trans hp)
      · exact hne hidle
    exact ⟨rest, hq⟩

end Sys2Proof.Machine
end

section
/-! PROOFS. The terminating codes (spec/43_scanline.md R205 to R207): past W the line is an overflow in every run phase;
within W each phase has its own next state. -/

namespace Sys2Proof.Machine

open Sys2Proof.Safety

variable {s : State} {c : Color} {i : Instr} {n w L : Nat}

/-- R205 to R207: a run that would end past W, in any run phase. -/
theorem runComplete_of_past (hc : runColor s = some c) (hf : FitsAcc (runStart s + L) s)
    (hpast : s.width < runStart s + L) : runComplete L s = .next (overflowed (runStart s + L) s.width s) := by
  obtain hp | hp | hp := runPhase_of_runColor hc
  · rw [runStart_of_ne_hrun1 (by simp [hp])] at hf hpast ⊢
    exact runComplete_eq_next.2 (.inl ⟨hp, runComplete1D_eq_next.2 ⟨hf, .inl ⟨hpast, rfl⟩⟩⟩)
  · rw [runStart_of_hrun1 hp] at hf hpast ⊢
    exact runComplete_eq_next.2 (.inr (.inl ⟨hp, runCompleteH1_eq_next.2 ⟨hf, .inl ⟨hpast, rfl⟩⟩⟩))
  · rw [runStart_of_ne_hrun1 (by simp [hp])] at hf hpast ⊢
    exact runComplete_eq_next.2 (.inr (.inr ⟨hp, runCompleteH2_eq_next.2 ⟨hf, .inl ⟨hpast, rfl⟩⟩⟩))

/-- R206: within W the first run of a Horizontal is emitted up to a1. -/
theorem runComplete_of_hrun1 (hp : s.phase = .hrun1) (hf : FitsAcc (runStart s + L) s) (hrs : s.rs ≤ runStart s)
    (hle : runStart s + L ≤ s.width) (hroom : RoomForRun s) : runComplete L s = .next
      { s with runs := s.runs ++ [runStart s + L - s.rs], rs := runStart s + L, phase := .hrun2 } := by
  rw [runStart_of_hrun1 hp] at hf hrs hle ⊢
  exact runComplete_eq_next.2 (.inr (.inl ⟨hp, runCompleteH1_eq_next.2
    ⟨hf, .inr ⟨hle, Nat.le_add_right_of_le hrs, hroom, rfl⟩⟩⟩))

/-- R207, R208: within W the second run of a Horizontal is emitted, and RS stands at A0, so no run is pending. -/
theorem runComplete_of_hrun2 (hp : s.phase = .hrun2) (hf : FitsAcc (s.rs + L) s) (hle : s.rs + L ≤ s.width)
    (hroom : RoomForRun s) : runComplete L s = .next
      (let t := { s with runs := s.runs ++ [L], rs := s.rs + L, a0 := ((s.rs + L : Nat) : Int), phase := .mode2D }
       if s.rs + L = s.width then ended .line t else t) := by
  refine runComplete_eq_next.2 (.inr (.inr ⟨hp, runCompleteH2_eq_next.2 ⟨hf, .inr ⟨hle, hroom, ?_⟩⟩⟩))
  dsimp only
  split
  case isTrue hend => exact lineCheck2D_of_complete (congrArg Nat.cast hend) hend.ge
  case isFalse hend => exact lineCheck2D_of_ne (mt Int.natCast_inj.1 hend)

/-- R141, R145: a terminating code completes the run of its value and RACC's. -/
theorem exec_term (hm : (i, c, n, w) ∈ termCodes) (hc : runColor s = some c) (hw : FitsCur w s)
    (hf : FitsAcc (s.racc + n) s) : exec i s = runComplete (s.racc + n) { s.advance w with racc := 0 } := by
  rw [exec_eq_op, opOf_of_mem_termCodes _ hm]
  exact runTerm_of_fits hc hw hf

/-- R205 to R207: the code word is consumed and RACC cleared before the overflow is raised. -/
theorem exec_term_of_past {a : Nat} (hm : (i, c, n, w) ∈ termCodes) (hc : runColor s = some c)
    (ha : runStart s = a) (hw : FitsCur w s) (hf : FitsAcc (a + (s.racc + n)) s)
    (hpast : s.width < a + (s.racc + n)) :
    exec i s = .next (overflowed (a + (s.racc + n)) s.width { s with cur := s.cur + w, racc := 0 }) := by
  subst ha
  rw [exec_term hm hc hw ((Nat.le_add_left ..).trans_lt hf)]
  exact runComplete_of_past (s := { s.advance w with racc := 0 }) hc hf hpast

/-- Settles O29: past W, or the run emitted in RUN1D. -/
theorem terminatingInRun1D : Obligations.TerminatingInRun1D := by
  intro i c n w hm s hp hcolor hw hf hroom
  have hc : runColor s = some c := runColor_eq_some_iff.2 (.inl ⟨.inl hp, hcolor⟩)
  dsimp only
  split
  case isTrue hpast => exact exec_term_of_past hm hc (runStart_of_ne_hrun1 (by simp [hp])) hw hf hpast
  case isFalse hpast =>
    have hle := not_lt.1 hpast
    rw [← hcolor]
    exact exec_term_of_run1D hm hp hcolor hw hf (hroom hle) hle

/-- Settles O30: past W, or the run emitted up to a1. -/
theorem terminatingInHRun1 : Obligations.TerminatingInHRun1 := by
  intro i c n w hm s hp hcolor hw hf hrs hroom
  have hc : runColor s = some c := runColor_eq_some_iff.2 (.inl ⟨.inr hp, hcolor⟩)
  have hstart : runStart s = (max s.a0 0).toNat := if_pos hp
  dsimp only
  split
  case isTrue hpast => exact exec_term_of_past hm hc hstart hw hf hpast
  case isFalse hpast =>
    have hle := not_lt.1 hpast
    rw [exec_term hm hc hw ((Nat.le_add_left ..).trans_lt hf)]
    have hrun : s.rs ≤ (max s.a0 0).toNat := by omega
    rw [← hstart] at hf hle hrun hroom ⊢
    exact runComplete_of_hrun1 (s := { s.advance w with racc := 0 }) hp hf hrun hle (hroom hle)

/-- Settles O31: past W, or the run emitted and the line checked. -/
theorem terminatingInHRun2 : Obligations.TerminatingInHRun2 := by
  intro i c n w hm s hp hcolor hw hf hroom
  have hc : runColor s = some c := runColor_eq_some_iff.2 (.inr ⟨hp, hcolor⟩)
  dsimp only
  split
  case isTrue hpast => exact exec_term_of_past hm hc (runStart_of_ne_hrun1 (by simp [hp])) hw hf hpast
  case isFalse hpast =>
    have hle := not_lt.1 hpast
    rw [exec_term hm hc hw ((Nat.le_add_left ..).trans_lt hf)]
    exact runComplete_of_hrun2 (s := { s.advance w with racc := 0 }) hp hf hle (hroom hle)

end Sys2Proof.Machine
end

section
/-! PROOFS. The course of a command (spec/43_scanline.md R202, R211, R214, R219): the phases an engine step leads to,
the line a LINE outcome reports, and the end every command comes to. -/

namespace Sys2Proof.Machine

open Sys2Proof.Safety

variable {s t : State}

/-! ## Phases -/

/-- R219: the phases a code word executed in this phase can lead to. -/
def Phase.Leads : Phase → Phase → Prop
  | .run1D, q => q = .run1D ∨ q = .done
  | .mode2D, q => q = .mode2D ∨ q = .hrun1 ∨ q = .done
  | .hrun1, q => q = .hrun1 ∨ q = .hrun2 ∨ q = .done
  | .hrun2, q => q = .hrun2 ∨ q = .mode2D ∨ q = .done
  | .idle, _ => False
  | .done, _ => False

theorem leads_done (hb : s.busy = true) : s.phase.Leads .done := by
  obtain hp | hp | hp | hp := busy_iff.1 hb <;> simp [hp, Phase.Leads]

theorem leads_self (hb : s.busy = true) : s.phase.Leads s.phase := by
  obtain hp | hp | hp | hp := busy_iff.1 hb <;> simp [hp, Phase.Leads]

/-- A command in progress leads on within the command, or to DONE. -/
theorem Phase.Leads.busy_or_done {p q : Phase} (h : p.Leads q) : q.busy = true ∨ q = .done := by
  cases q with
  | idle => cases p <;> simp [Phase.Leads] at h
  | done => exact .inr rfl
  | run1D | mode2D | hrun1 | hrun2 => exact .inl rfl

/-- R208: the line check keeps PHASE or ends the command. -/
theorem lineCheck2D_phase (h : lineCheck2D s = .next t) : t.phase = s.phase ∨ t.phase = .done := by
  obtain ⟨-, rfl⟩ | ⟨-, -, -, rfl⟩ | ⟨-, -, rfl⟩ := lineCheck2D_eq_next.1 h
  · exact .inl rfl
  · exact .inr rfl
  · exact .inr rfl

theorem leads_of_lineCheck2D {p : Phase} (h : lineCheck2D s = .next t) (hp : p.Leads s.phase)
    (hd : p.Leads .done) : p.Leads t.phase := by
  obtain ht | ht := lineCheck2D_phase h <;> rwa [ht]

theorem runComplete_leads {L : Nat} (h : runComplete L s = .next t) : s.phase.Leads t.phase := by
  obtain ⟨hp, h⟩ | ⟨hp, h⟩ | ⟨hp, h⟩ := runComplete_eq_next.1 h
  · obtain ⟨-, ⟨-, rfl⟩ | ⟨-, -, rfl⟩⟩ := runComplete1D_eq_next.1 h
    · simp [hp, Phase.Leads]
    · dsimp only
      split <;> simp [hp, Phase.Leads]
  · obtain ⟨-, ⟨-, rfl⟩ | ⟨-, -, -, rfl⟩⟩ := runCompleteH1_eq_next.1 h <;> simp [hp, Phase.Leads]
  · obtain ⟨-, ⟨-, rfl⟩ | ⟨-, -, hl⟩⟩ := runCompleteH2_eq_next.1 h
    · simp [hp, Phase.Leads]
    · exact leads_of_lineCheck2D hl (by simp [hp, Phase.Leads]) (by simp [hp, Phase.Leads])

theorem exec_leads {i : Instr} (h : exec i s = .next t) (hb : s.busy = true) : s.phase.Leads t.phase := by
  rw [exec_eq_op] at h
  cases hop : opOf i <;> rw [hop] at h
  case term c n w =>
    obtain ⟨-, -, -, hr⟩ := runTerm_eq_next.1 h
    exact runComplete_leads (s := { s.advance w with racc := 0 }) hr
  case makeup c v w =>
    obtain ⟨-, -, -, rfl⟩ := runMakeup_eq_next.1 h
    exact leads_self hb
  case runEol c =>
    obtain ⟨-, -, rfl⟩ := runEol_eq_next.1 h
    exact leads_done hb
  case pass =>
    obtain ⟨-, -, -, hl⟩ := passMode_eq_next.1 h
    exact leads_of_lineCheck2D hl (leads_self hb) (leads_done hb)
  case horizontal =>
    obtain ⟨hp, -, rfl⟩ := horizontalMode_eq_next.1 h
    simp [hp, Phase.Leads]
  case vertical k w =>
    obtain ⟨-, ⟨-, rfl⟩ | ⟨-, -, -, ⟨-, rfl⟩ | ⟨-, -, -, hl⟩⟩⟩ := verticalMode_eq_next.1 h
    · exact leads_done hb
    · exact leads_done hb
    · exact leads_of_lineCheck2D hl (leads_self hb) (leads_done hb)
  case extension =>
    obtain ⟨-, rfl⟩ := extensionMode_eq_next.1 h
    exact leads_done hb
  case modeEol =>
    obtain ⟨-, -, rfl⟩ := modeEol_eq_next.1 h
    exact leads_done hb

/-- R202: an engine step of a running command executes a code word, or ends the command by an error. -/
theorem engineStep_of_busy (h : engineStep s = .next t) (hb : s.busy = true) :
    (∃ i, fetch s = .instr i ∧ exec i s = .next t) ∨ ∃ e, fetch s = .error e ∧ t = s.raise e := by
  refine (engineStep_eq_next.1 h).resolve_left fun ⟨hf, _⟩ => ?_
  rw [fetch_eq_waiting_iff, hb] at hf
  cases hf

theorem engineStep_leads (h : engineStep s = .next t) (hb : s.busy = true) : s.phase.Leads t.phase := by
  obtain ⟨i, -, hx⟩ | ⟨e, -, rfl⟩ := engineStep_of_busy h hb
  · exact exec_leads hx hb
  · exact leads_done hb

/-- Settles O28: a code word leads where R219 says, and a failed walk to DONE. -/
theorem phaseTransitions : Obligations.PhaseTransitions := by
  intro s t h
  have hleads {p : Phase} (hp : s.phase = p) (hb : p.busy = true) : p.Leads t.phase := by
    subst hp
    exact engineStep_leads h hb
  exact ⟨fun hp => hleads hp rfl, fun hp => hleads hp rfl, fun hp => hleads hp rfl, fun hp => hleads hp rfl,
    fun hp => eq_of_engineStep_not_busy (busy_eq_false_iff.2 hp) h⟩

/-! ## The line reported -/

/-- R120: the code word fetched is the one the decoder finds in the table in force. -/
theorem decode_of_fetch {i : Instr} (h : fetch s = .instr i) :
    ∃ tab rest, currentTable s = some tab ∧ decode tab (remaining s) = .code i rest := by
  unfold fetch at h
  cases ht : currentTable s with
  | none => simp [ht] at h
  | some tab =>
    simp only [ht, fetchIn] at h
    split at h <;> cases h
    exact ⟨tab, _, rfl, ‹_›⟩

/-- R35, R42 (f): the result registers of a LINE outcome hold a line of W pixels. -/
theorem line_results (hi : Inv t) (hp : t.phase = .done) (hk : t.kind = .line) :
    (resultRuns t).sum = t.width ∧ resultRuns t ≠ [] ∧ t.outCount = (resultRuns t).length ∧ t.outCur = t.cur := by
  obtain ⟨-, -, -, -, -, -, -, hdone⟩ := hi
  obtain ⟨hcount, hruns, hcur, -, hline, -⟩ := hdone hp
  have hresult : resultRuns t = t.runs := hruns
  obtain ⟨hne, hsum⟩ := refWellFormed_iff.1 (hline hk)
  rw [hresult]
  exact ⟨hsum, hne, hcount, hcur⟩

/-- Settles O45: the invariant holds of the state reached, and the step was a code word's, which consumed its bits. -/
theorem lineSumsToWidth : Obligations.LineSumsToWidth := by
  intro s t hi hb h hp hk
  obtain ⟨hsum, hne, hcount, hcur⟩ := line_results (engineStep_inv h hi) hp hk
  refine ⟨hsum.trans (engineStep_frame h).width, hne, hcount, hcur, ?_⟩
  obtain ⟨i, hf, hx⟩ | ⟨e, -, rfl⟩ := engineStep_of_busy h hb
  · obtain ⟨tab, rest, ht, hd⟩ := decode_of_fetch hf
    obtain hmoved | ⟨-, -, herror, -⟩ := cursorMovesByWidth i s t hx
    · exact ⟨i, rest, tab, ht, hd, hcur.trans hmoved⟩
    · cases hk.symm.trans herror
  · cases hk

/-! ## What can refuse a code word of the table in force -/

/-- The refusals of R9 that a running command can meet. -/
abbrev BoundRefusal (r : Refusal) : Prop := r = .cursorExceeded ∨ r = .positionExceeded ∨ r = .runBufferFull

/-- A result that is no refusal but one of R9's. -/
def RefusedByBound (r : Result) : Prop := ∀ x, r = .refused x → BoundRefusal x

theorem refusedByBound_next (s : State) : RefusedByBound (.next s) := nofun

theorem refusedByBound_andThen {r : Result} {f : State → Result} (hr : RefusedByBound r)
    (hf : ∀ s, r = .next s → RefusedByBound (f s)) : RefusedByBound (andThen r f) := by
  intro x hx
  obtain hx | ⟨s, hs, hx⟩ := andThen_eq_refused.1 hx
  · exact hr x hx
  · exact hf s hs x hx

theorem refusedByBound_ite {p : Prop} [Decidable p] {q r : Result} (hq : p → RefusedByBound q)
    (hr : ¬ p → RefusedByBound r) : RefusedByBound (if p then q else r) := by
  split
  · exact hq ‹_›
  · exact hr ‹_›

theorem refusedByBound_if_pos {p : Prop} [Decidable p] {q r : Result} (hp : p) (hq : RefusedByBound q) :
    RefusedByBound (if p then q else r) :=
  refusedByBound_ite (fun _ => hq) fun hn => absurd hp hn

theorem consume_refusedByBound (n : Nat) (s : State) : RefusedByBound (consume n s) :=
  fun _ h => .inl (consume_eq_refused.1 h).2

theorem checkAcc_refusedByBound (v : Nat) (s : State) : RefusedByBound (checkAcc v s) :=
  fun _ h => .inr (.inl (checkAcc_eq_refused.1 h).2)

theorem emit_refusedByBound (n : Nat) (s : State) : RefusedByBound (emit n s) :=
  fun _ h => .inr (.inr (emit_eq_refused.1 h).2)

theorem emitTo_refusedByBound {a : Nat} (h : s.rs ≤ a) : RefusedByBound (emitTo a s) := by
  intro x hx
  obtain ⟨hn, -⟩ | ⟨-, -, hx⟩ := emitTo_eq_refused.1 hx
  · exact absurd h hn
  · exact .inr (.inr hx)

theorem lineCheck2D_refusedByBound (s : State) : RefusedByBound (lineCheck2D s) :=
  refusedByBound_ite (fun _ => refusedByBound_ite
    (fun _ => refusedByBound_andThen (emit_refusedByBound _ _) fun _ _ => refusedByBound_next _)
    fun _ => refusedByBound_next _) fun _ => refusedByBound_next _

theorem runComplete1D_refusedByBound (L : Nat) (s : State) : RefusedByBound (runComplete1D L s) :=
  refusedByBound_andThen (checkAcc_refusedByBound _ _) fun _ _ => refusedByBound_ite
    (fun _ => refusedByBound_next _) fun _ =>
    refusedByBound_andThen (emit_refusedByBound _ _) fun _ _ => refusedByBound_next _

theorem runCompleteH1_refusedByBound {L : Nat} (hrs : s.rs ≤ pos0 s + L) :
    RefusedByBound (runCompleteH1 L s) := by
  refine refusedByBound_andThen (checkAcc_refusedByBound _ _) fun u hu => refusedByBound_ite
    (fun _ => refusedByBound_next _) fun _ => refusedByBound_andThen ?_ fun _ _ => refusedByBound_next _
  obtain ⟨-, rfl⟩ := checkAcc_eq_next.1 hu
  exact emitTo_refusedByBound hrs

theorem runCompleteH2_refusedByBound (L : Nat) (s : State) : RefusedByBound (runCompleteH2 L s) :=
  refusedByBound_andThen (checkAcc_refusedByBound _ _) fun _ _ => refusedByBound_ite
    (fun _ => refusedByBound_next _) fun _ =>
    refusedByBound_andThen (emit_refusedByBound _ _) fun _ _ => lineCheck2D_refusedByBound _

/-- R42 (c): in HRUN1 no emitted run is negative. -/
theorem runComplete_refusedByBound {L : Nat} {c : Color} (hc : runColor s = some c)
    (hrs : s.phase = .hrun1 → s.rs ≤ pos0 s) : RefusedByBound (runComplete L s) := by
  unfold runComplete
  obtain hp | hp | hp := runPhase_of_runColor hc <;> rw [hp]
  · exact runComplete1D_refusedByBound L s
  · exact runCompleteH1_refusedByBound (Nat.le_add_right_of_le (hrs hp))
  · exact runCompleteH2_refusedByBound L s

theorem runTerm_refusedByBound {c : Color} {n w : Nat} (hc : runColor s = some c)
    (hrs : s.phase = .hrun1 → s.rs ≤ pos0 s) : RefusedByBound (runTerm c n w s) := by
  refine refusedByBound_if_pos hc (refusedByBound_andThen (consume_refusedByBound _ _) fun u hu =>
    refusedByBound_andThen (checkAcc_refusedByBound _ _) fun v hv => ?_)
  obtain ⟨-, rfl⟩ := consume_eq_next.1 hu
  obtain ⟨-, rfl⟩ := checkAcc_eq_next.1 hv
  exact runComplete_refusedByBound (s := { s.advance w with racc := 0 }) hc hrs

theorem verticalMode_refusedByBound {k : Int} {w : Nat} (hp : s.phase = .mode2D)
    (hrs : (s.rs : Int) ≤ max s.a0 0) : RefusedByBound (verticalMode k w s) := by
  refine refusedByBound_if_pos hp (refusedByBound_ite (fun _ => refusedByBound_next _) fun hleft =>
    refusedByBound_andThen (consume_refusedByBound _ _) fun u hu =>
    refusedByBound_andThen (checkAcc_refusedByBound _ _) fun v hv =>
    refusedByBound_ite (fun _ => refusedByBound_next _) fun _ =>
    refusedByBound_andThen ?_ fun _ _ => lineCheck2D_refusedByBound _)
  obtain ⟨-, rfl⟩ := consume_eq_next.1 hu
  obtain ⟨-, rfl⟩ := checkAcc_eq_next.1 hv
  have hrun : s.rs ≤ ((b1 s : Int) + k).toNat := by omega
  exact emitTo_refusedByBound (s := s.advance w) hrun

/-- R9, R42 (c): in the table in force nothing but a parameter refuses a code word. -/
theorem exec_refusedByBound {i : Instr} (hi : Inv s) (ht : currentTable s = some i.table) :
    RefusedByBound (exec i s) := by
  rw [← opOf_table] at ht
  rw [exec_eq_op]
  cases hop : opOf i <;> rw [hop] at ht
  case term c n w =>
    have hc := currentTable_eq_ofColor.1 ht
    exact runTerm_refusedByBound hc fun hp => by
      obtain ⟨-, -, -, hrs, -⟩ := (inv_hrun1_iff hp).1 hi
      rw [pos0]
      omega
  case makeup c v w =>
    exact refusedByBound_if_pos (currentTable_eq_ofColor.1 ht) (refusedByBound_andThen
      (consume_refusedByBound _ _) fun _ _ => refusedByBound_andThen (checkAcc_refusedByBound _ _) fun _ _ =>
      refusedByBound_next _)
  case runEol c =>
    exact refusedByBound_if_pos (currentTable_eq_ofColor.1 ht) (refusedByBound_andThen
      (consume_refusedByBound _ _) fun _ _ => refusedByBound_next _)
  case pass =>
    exact refusedByBound_if_pos (currentTable_eq_mode.1 ht) (refusedByBound_andThen
      (consume_refusedByBound _ _) fun _ _ => refusedByBound_andThen (checkAcc_refusedByBound _ _) fun _ _ =>
      lineCheck2D_refusedByBound _)
  case horizontal =>
    exact refusedByBound_if_pos (currentTable_eq_mode.1 ht) (refusedByBound_andThen
      (consume_refusedByBound _ _) fun _ _ => refusedByBound_next _)
  case vertical k w =>
    have hp := currentTable_eq_mode.1 ht
    obtain ⟨-, -, -, -, hrs, -⟩ := (inv_mode2D_iff hp).1 hi
    exact verticalMode_refusedByBound hp hrs
  case extension => exact refusedByBound_if_pos (currentTable_eq_mode.1 ht) (refusedByBound_next _)
  case modeEol =>
    exact refusedByBound_if_pos (currentTable_eq_mode.1 ht) (refusedByBound_andThen
      (consume_refusedByBound _ _) fun _ _ => refusedByBound_next _)

/-! ## The end of the command -/

/-- The engine answers a next state, or a parameter refuses the code word; it never faults. -/
theorem engineStep_answers (hi : Inv s) :
    (∃ t, engineStep s = .next t) ∨ ∃ r, engineStep s = .refused r ∧ BoundRefusal r := by
  unfold engineStep
  cases hf : fetch s with
  | waiting => exact .inl ⟨_, rfl⟩
  | error e => exact .inl ⟨_, rfl⟩
  | instr i =>
    dsimp only
    cases hx : exec i s with
    | next t => exact .inl ⟨t, rfl⟩
    | fault x => exact absurd hx (exec_ne_fault i s x)
    | refused r => exact .inr ⟨r, rfl, exec_refusedByBound hi (fetch_eq_instr hf).1 r hx⟩

/-- Once ended, the command stays so for any number of steps (R202). -/
theorem run_of_done (hp : s.phase = .done) (hq : s.hostQueue = []) (n : Nat) : core.run n s = .next s := by
  induction n with
  | zero => rfl
  | succ n ih => exact (run_succ_of_step ((idleChangesNothing s (.inr hp)).1 hq)).trans ih

theorem run_succ_of_refused {n : Nat} {r : Refusal} (h : step s = .refused r) :
    core.run (n + 1) s = .refused r := by
  have hstep : core.step s = .refused r := h
  simp only [Host.Core.run, hstep]

/-- R214: every step but the last consumes at least one of the bits left, so `n` steps end a command with fewer than
`n` bits left. -/
theorem run_ends {n : Nat} (hi : Inv s) (hb : s.busy = true) (hq : s.hostQueue = [])
    (hn : s.mem.stream.length - s.cur < n) :
    (∃ t, core.run n s = .next t ∧ t.phase = .done) ∨ ∃ r, core.run n s = .refused r ∧ BoundRefusal r := by
  induction n generalizing s with
  | zero => omega
  | succ n ih =>
    have hstep := step_of_empty_queue hq
    obtain ⟨t, h⟩ | ⟨r, h, hr⟩ := engineStep_answers hi
    · have hframe := engineStep_frame h
      have hqt : t.hostQueue = [] := hframe.hostQueue.trans hq
      rw [run_succ_of_step (hstep.trans h)]
      obtain hbt | hpt := (engineStep_leads h hb).busy_or_done
      · obtain ⟨-, hle, hmoved⟩ := stepConsumesOrEnds s t hi hb h
        have hlt := hmoved.resolve_left (busy_iff_ne.1 hbt).2
        exact ih (engineStep_inv h hi) hbt hqt (by rw [hframe.stream]; omega)
      · exact .inl ⟨t, run_of_done hpt hqt n, hpt⟩
    · exact .inr ⟨r, run_succ_of_refused (hstep.trans h), hr⟩

/-- Settles O47: one step more than there are bits left. -/
theorem commandEnds : Obligations.CommandEnds :=
  fun _ hi hb hq => run_ends hi hb hq (Nat.lt_succ_self _)

end Sys2Proof.Machine
end

section
/-! PROOFS. The engine reads no CMODE: Group3_2D and Group4 decode a line the same way (spec/43_scanline.md R203). -/

namespace Sys2Proof.Machine

variable {m : CodingMode}

/-- A state whose CMODE is `m`. -/
def State.withMode (m : CodingMode) (s : State) : State := { s with cmode := m }

/-- The result with `m` in its next state. -/
def modeResult (m : CodingMode) (r : Result) : Result := andThen r fun s => .next (s.withMode m)

@[simp] theorem modeResult_next (s : State) : modeResult m (.next s) = .next (s.withMode m) := rfl
@[simp] theorem modeResult_fault (x : Fault) : modeResult m (.fault x) = .fault x := rfl
@[simp] theorem modeResult_refused (x : Refusal) : modeResult m (.refused x) = .refused x := rfl

/-- `f` commutes with setting CMODE to `m` at `s`. -/
abbrev ModeFree (m : CodingMode) (f : State → Result) (s : State) : Prop :=
  f (s.withMode m) = modeResult m (f s)

/-! ## Sequences and choices -/

theorem modeResult_andThen {q r : Result} {f g : State → Result} (hq : q = modeResult m r)
    (h : ∀ u, f (u.withMode m) = modeResult m (g u)) : andThen q f = modeResult m (andThen r g) := by
  subst hq
  cases r with
  | next u => exact h u
  | fault x => rfl
  | refused x => rfl

theorem modeResult_ite {p : Prop} [Decidable p] {a b a' b' : Result} (ha : a' = modeResult m a)
    (hb : b' = modeResult m b) : (if p then a' else b') = modeResult m (if p then a else b) := by
  split
  · exact ha
  · exact hb

/-! ## The operations -/

theorem consume_modeFree (n : Nat) (s : State) : ModeFree m (consume n) s := modeResult_ite rfl rfl

theorem checkAcc_modeFree (v : Nat) (s : State) : ModeFree m (checkAcc v) s := modeResult_ite rfl rfl

theorem emit_modeFree (n : Nat) (s : State) : ModeFree m (emit n) s := modeResult_ite rfl rfl

theorem emitTo_modeFree (a : Nat) (s : State) : ModeFree m (emitTo a) s :=
  modeResult_ite (emit_modeFree _ s) rfl

theorem lineCheck2D_modeFree (s : State) : ModeFree m lineCheck2D s :=
  modeResult_ite (modeResult_ite (modeResult_andThen (emit_modeFree _ s) fun _ => rfl) rfl) rfl

theorem runComplete1D_modeFree (L : Nat) (s : State) : ModeFree m (runComplete1D L) s := by
  refine modeResult_andThen (checkAcc_modeFree _ s) fun u => modeResult_ite rfl
    (modeResult_andThen (emit_modeFree _ u) fun v => ?_)
  rw [apply_ite Host.Outcome.next, apply_ite Host.Outcome.next]
  exact modeResult_ite rfl rfl

theorem runCompleteH1_modeFree (L : Nat) (s : State) : ModeFree m (runCompleteH1 L) s :=
  modeResult_andThen (checkAcc_modeFree _ s) fun u => modeResult_ite rfl
    (modeResult_andThen (emitTo_modeFree _ u) fun _ => rfl)

theorem runCompleteH2_modeFree (L : Nat) (s : State) : ModeFree m (runCompleteH2 L) s :=
  modeResult_andThen (checkAcc_modeFree _ s) fun u => modeResult_ite rfl
    (modeResult_andThen (emit_modeFree _ u) fun v =>
      lineCheck2D_modeFree { v with rs := _, a0 := _, phase := _ })

theorem runComplete_modeFree (L : Nat) (s : State) : ModeFree m (runComplete L) s := by
  unfold ModeFree runComplete
  rw [show (s.withMode m).phase = s.phase from rfl]
  cases s.phase with
  | run1D => exact runComplete1D_modeFree L s
  | hrun1 => exact runCompleteH1_modeFree L s
  | hrun2 => exact runCompleteH2_modeFree L s
  | mode2D => rfl
  | idle => rfl
  | done => rfl

theorem runTerm_modeFree (c : Color) (n w : Nat) (s : State) : ModeFree m (runTerm c n w) s :=
  modeResult_ite (modeResult_andThen (consume_modeFree w s) fun u =>
    modeResult_andThen (checkAcc_modeFree _ u) fun v => runComplete_modeFree _ { v with racc := 0 }) rfl

theorem runMakeup_modeFree (c : Color) (v w : Nat) (s : State) : ModeFree m (runMakeup c v w) s :=
  modeResult_ite (modeResult_andThen (consume_modeFree w s) fun u =>
    modeResult_andThen (checkAcc_modeFree _ u) fun _ => rfl) rfl

theorem runEol_modeFree (c : Color) (w : Nat) (s : State) : ModeFree m (runEol c w) s :=
  modeResult_ite (modeResult_andThen (consume_modeFree w s) fun _ => rfl) rfl

/-- R203: b2 is found without CMODE. -/
theorem passMode_modeFree (w : Nat) (s : State) : ModeFree m (passMode w) s :=
  modeResult_ite (modeResult_andThen (consume_modeFree w s) fun u =>
    modeResult_andThen (checkAcc_modeFree _ u) fun v => lineCheck2D_modeFree { v with a0 := _ }) rfl

theorem horizontalMode_modeFree (w : Nat) (s : State) : ModeFree m (horizontalMode w) s :=
  modeResult_ite (modeResult_andThen (consume_modeFree w s) fun _ => rfl) rfl

/-- R203: b1 is found without CMODE. -/
theorem verticalMode_modeFree (k : Int) (w : Nat) (s : State) : ModeFree m (verticalMode k w) s :=
  modeResult_ite (modeResult_ite rfl (modeResult_andThen (consume_modeFree w s) fun u =>
    modeResult_andThen (checkAcc_modeFree _ u) fun v => modeResult_ite rfl
      (modeResult_andThen (emitTo_modeFree _ v) fun x =>
        lineCheck2D_modeFree { x with rs := _, a0 := _, color := _ }))) rfl

theorem extensionMode_modeFree (s : State) : ModeFree m extensionMode s := modeResult_ite rfl rfl

theorem modeEol_modeFree (w : Nat) (s : State) : ModeFree m (modeEol w) s :=
  modeResult_ite (modeResult_andThen (consume_modeFree w s) fun _ => rfl) rfl

/-! ## The code words and the engine step -/

theorem exec_modeFree (i : Instr) (s : State) : ModeFree m (exec i) s := by
  rw [ModeFree, exec_eq_op, exec_eq_op]
  cases opOf i with
  | term c n w => exact runTerm_modeFree c n w s
  | makeup c v w => exact runMakeup_modeFree c v w s
  | runEol c => exact runEol_modeFree c 12 s
  | pass => exact passMode_modeFree 4 s
  | horizontal => exact horizontalMode_modeFree 3 s
  | vertical k w => exact verticalMode_modeFree k w s
  | extension => exact extensionMode_modeFree s
  | modeEol => exact modeEol_modeFree 12 s

/-- The table in force and the bits at the cursor do not depend on CMODE. -/
theorem fetch_withMode (s : State) : fetch (s.withMode m) = fetch s := rfl

theorem engineStep_modeFree (s : State) : ModeFree m engineStep s := by
  rw [ModeFree, engineStep, engineStep, fetch_withMode]
  cases fetch s with
  | waiting => rfl
  | instr i => exact exec_modeFree i s
  | error e => rfl

/-- Settles O49: a code word by its operation, the engine step by what it fetches. -/
theorem codingModeOnlyFrames : Obligations.CodingModeOnlyFrames := by
  refine ⟨fun i s m => (exec_modeFree i s).trans ?_, fun s m => (engineStep_modeFree s).trans ?_⟩
  · cases exec i s <;> rfl
  · cases engineStep s <;> rfl

end Sys2Proof.Machine
end

section
/-! PROOFS. The state after an error (spec/60_exceptions.md R249): a failed walk and an InvalidModeCode consume
nothing, a RunOverflow consumes its code word and clears RACC in a run phase. -/

namespace Sys2Proof.Machine

open Sys2Proof.Safety

variable {s t : State}

/-- The command has ended with outcome ERROR. -/
abbrev EndsInError (t : State) : Prop := t.phase = .done ∧ t.kind = .error

/-- `t` is `s` ended by a RunOverflow at some position past W. -/
def OverflowOf (s t : State) : Prop := ∃ acc, s.width < acc ∧ t = overflowed acc s.width s

/-- R249: the error outcomes of a code word of `w` bits. -/
def PreciseError (w : Nat) (s t : State) : Prop :=
  t = erredAt .invalidModeCode s.cur s ∨
    OverflowOf { s with cur := s.cur + w, racc := if s.phase = .mode2D then s.racc else 0 } t

theorem not_endsInError_of_busy (hb : t.busy = true) : ¬ EndsInError t :=
  fun he => (busy_iff_ne.1 hb).2 he.1

theorem not_endsInError_finish {k : Kind} (hk : k ≠ .error) : ¬ EndsInError (s.finish k) :=
  fun he => hk he.2

/-- R208: the line check raises no error. -/
theorem lineCheck2D_not_endsInError (h : lineCheck2D s = .next t) (hp : s.phase = .mode2D) : ¬ EndsInError t := by
  obtain ⟨-, rfl⟩ | ⟨-, -, -, rfl⟩ | ⟨-, -, rfl⟩ := lineCheck2D_eq_next.1 h
  · exact not_endsInError_of_busy (busy_iff.2 (.inr (.inl hp)))
  · exact not_endsInError_finish (by decide)
  · exact not_endsInError_finish (by decide)

/-- R205 to R207: completing a run raises RunOverflow only. -/
theorem runComplete_overflowOf {L : Nat} (h : runComplete L s = .next t) (he : EndsInError t) : OverflowOf s t := by
  obtain ⟨hp, h⟩ | ⟨-, h⟩ | ⟨-, h⟩ := runComplete_eq_next.1 h
  · obtain ⟨-, ⟨hpast, rfl⟩ | ⟨-, -, rfl⟩⟩ := runComplete1D_eq_next.1 h
    · exact ⟨_, hpast, rfl⟩
    · dsimp only at he
      split at he
      · exact absurd he (not_endsInError_finish (by decide))
      · exact absurd he (not_endsInError_of_busy (busy_iff.2 (.inl hp)))
  · obtain ⟨-, ⟨hpast, rfl⟩ | ⟨-, -, -, rfl⟩⟩ := runCompleteH1_eq_next.1 h
    · exact ⟨_, hpast, rfl⟩
    · exact absurd he (not_endsInError_of_busy rfl)
  · obtain ⟨-, ⟨hpast, rfl⟩ | ⟨-, -, hl⟩⟩ := runCompleteH2_eq_next.1 h
    · exact ⟨_, hpast, rfl⟩
    · exact absurd he (lineCheck2D_not_endsInError hl rfl)

/-- R141, R145: a terminating code is consumed and RACC cleared before its run is completed. -/
theorem runTerm_preciseError {c : Color} {n w : Nat} (h : runTerm c n w s = .next t) (he : EndsInError t) :
    PreciseError w s t := by
  obtain ⟨hc, -, -, hr⟩ := runTerm_eq_next.1 h
  have hp : s.phase ≠ .mode2D := by obtain hp | hp | hp := runPhase_of_runColor hc <;> simp [hp]
  rw [PreciseError, if_neg hp]
  exact .inr (runComplete_overflowOf hr he)

/-- R187: a1 left of a0 is refused before the code word is consumed, a1 past W after. -/
theorem verticalMode_preciseError {k : Int} {w : Nat} (h : verticalMode k w s = .next t) (he : EndsInError t) :
    PreciseError w s t := by
  obtain ⟨hp, ⟨-, rfl⟩ | ⟨-, -, -, ⟨hpast, rfl⟩ | ⟨-, -, -, hl⟩⟩⟩ := verticalMode_eq_next.1 h
  · exact .inl rfl
  · rw [PreciseError, if_pos hp]
    exact .inr ⟨_, Int.lt_toNat.2 hpast, rfl⟩
  · exact absurd he (lineCheck2D_not_endsInError hl hp)

theorem exec_preciseError {i : Instr} (h : exec i s = .next t) (he : EndsInError t) :
    PreciseError (encode i).length s t := by
  rw [exec_eq_op] at h
  rw [← opOf_width]
  cases hop : opOf i <;> rw [hop] at h
  case term c n w => exact runTerm_preciseError h he
  case makeup c v w =>
    obtain ⟨hc, -, -, rfl⟩ := runMakeup_eq_next.1 h
    exact absurd he (not_endsInError_of_busy (busy_of_runColor hc))
  case runEol c =>
    obtain ⟨-, -, rfl⟩ := runEol_eq_next.1 h
    exact absurd he (not_endsInError_finish (by decide))
  case pass =>
    obtain ⟨hp, -, -, hl⟩ := passMode_eq_next.1 h
    exact absurd he (lineCheck2D_not_endsInError hl hp)
  case horizontal =>
    obtain ⟨-, -, rfl⟩ := horizontalMode_eq_next.1 h
    exact absurd he (not_endsInError_of_busy rfl)
  case vertical k w => exact verticalMode_preciseError h he
  case extension =>
    obtain ⟨-, rfl⟩ := extensionMode_eq_next.1 h
    exact .inl rfl
  case modeEol =>
    obtain ⟨-, -, rfl⟩ := modeEol_eq_next.1 h
    exact absurd he (not_endsInError_finish (by decide))

/-- R124: a failed walk consumes nothing. -/
theorem raise_eq_erredAt_of_fetch {e : ErrInfo} (h : fetch s = .error e) :
    ∃ x, (x = .invalidCode ∨ x = .invalidModeCode ∨ x = .unexpectedEndOfData) ∧
      s.raise e = erredAt x s.cur s := by
  obtain rfl | rfl | rfl := fetch_eq_error h
  · exact ⟨_, .inl rfl, rfl⟩
  · exact ⟨_, .inr (.inl rfl), rfl⟩
  · exact ⟨_, .inr (.inr rfl), rfl⟩

/-- Settles O42: the error is the code word's, of which only RunOverflow consumes it, or the failed walk's. -/
theorem errorsArePrecise : Obligations.ErrorsArePrecise := by
  intro s t hb h hp hk
  obtain ⟨i, hf, hx⟩ | ⟨e, hf, rfl⟩ := engineStep_of_busy h hb
  · obtain hinvalid | ⟨acc, hpast, ht⟩ := exec_preciseError hx ⟨hp, hk⟩
    · exact .inl ⟨_, .inr (.inl rfl), hinvalid⟩
    · obtain ⟨tab, rest, htab, hd⟩ := decode_of_fetch hf
      exact .inr ⟨i, rest, tab, acc, htab, hd, hpast, ht⟩
  · exact .inl (raise_eq_erredAt_of_fetch hf)

end Sys2Proof.Machine
end

section
/-! PROOFS. A reset asserted at any time (spec/70_reset_and_hazards.md R270). -/

namespace Sys2Proof.Machine

variable {s : State} {rest : List HostAction}

theorem step_of_reset (hq : s.hostQueue = .reset :: rest) : step s = .next s.popAction.resetNow :=
  step_of_hostAction hq nofun

/-- Settles O13: whatever the phase, the step takes the reset off the queue and answers `State.resetNow`. -/
theorem resetAtAnyTime : Obligations.ResetAtAnyTime := by
  intro s rest hq
  rw [step_of_reset hq, popAction_of_queue hq]
  refine ⟨_, rfl, rfl, statusWord_of_idle rfl, ?_⟩
  simp [State.reset]

end Sys2Proof.Machine
end
